-- ==== Sys2Proof/Word.lean ====
section
/-! DEFINITION. The machine's words (00_scope R4, R6, R7): 32-bit words with arithmetic modulo 2^32, bytes,
register numbers and address space identifiers. -/

namespace Sys2Proof

/-- A 32-bit word; `+` and `-` are modulo 2^32 (00_scope R7). -/
abbrev Word := BitVec 32

/-- One byte of memory. -/
abbrev Byte := BitVec 8

/-- A register number 0 to 31, as the fields rd, rs1 and rs2 hold it (30_encoding R125). -/
abbrev RegNum := BitVec 5

/-- An address space identifier (20_memory R80). -/
abbrev Asi := BitVec 8

end Sys2Proof
end

