-- ==== Sys2Proof/Syntax.lean ====
section
/-! DEFINITION. The instructions: one constructor per row of spec/opcode_table.json, in the table's order, with
the fields its format gives it (30_encoding R122 to R129). Bits the spec calls ignored (R129) are no fields. -/

namespace Sys2Proof

/-- The second operand of a Format 3a or 3b instruction (30_encoding R127): `r[rs2]` when i = 0, the
sign-extended constant when i = 1. -/
inductive RegImm where
  | reg (rs2 : RegNum)
  | imm (simm13 : BitVec 13)
deriving DecidableEq, Repr

/-- Bits 13:0 of an alternate-space load or store. With i = 0 they name the space and rs2
(40_data_transfer R162). The form with i = 1 decodes, and raises illegal_instruction (D5). -/
inductive AltOperand where
  | reg (asi : Asi) (rs2 : RegNum)
  | imm (simm13 : BitVec 13)
deriving DecidableEq, Repr

/-- Bits 13:0 of a floating point load or store. The IU ignores bits 12:5 when i = 0 (30_encoding R129), and
they are kept, because the whole word goes to the FPU (44_fp_and_other R365). -/
inductive FpOperand where
  | reg (ignored : BitVec 8) (rs2 : RegNum)
  | imm (simm13 : BitVec 13)
deriving DecidableEq, Repr

/-- The 144 rows of the opcode table. The fields rd, rs1, rs2 of a floating point operate instruction and
the rd of a floating point load or store number registers of the FPU. -/
inductive Instr where
  /-- LD (R174). -/
  | ld (rd rs1 : RegNum) (o : RegImm)
  /-- LDUB (R172). -/
  | ldub (rd rs1 : RegNum) (o : RegImm)
  /-- LDUH (R173). -/
  | lduh (rd rs1 : RegNum) (o : RegImm)
  /-- LDD (R175). -/
  | ldd (rd rs1 : RegNum) (o : RegImm)
  /-- ST (R184). -/
  | st (rd rs1 : RegNum) (o : RegImm)
  /-- STB (R182). -/
  | stb (rd rs1 : RegNum) (o : RegImm)
  /-- STH (R183). -/
  | sth (rd rs1 : RegNum) (o : RegImm)
  /-- STD (R185). -/
  | std (rd rs1 : RegNum) (o : RegImm)
  /-- LDSB (R170). -/
  | ldsb (rd rs1 : RegNum) (o : RegImm)
  /-- LDSH (R171). -/
  | ldsh (rd rs1 : RegNum) (o : RegImm)
  /-- LDSTUB (R190). -/
  | ldstub (rd rs1 : RegNum) (o : RegImm)
  /-- LDA (R180). -/
  | lda (rd rs1 : RegNum) (a : AltOperand)
  /-- LDUBA (R178). -/
  | lduba (rd rs1 : RegNum) (a : AltOperand)
  /-- LDUHA (R179). -/
  | lduha (rd rs1 : RegNum) (a : AltOperand)
  /-- LDDA (R181). -/
  | ldda (rd rs1 : RegNum) (a : AltOperand)
  /-- STA (R188). -/
  | sta (rd rs1 : RegNum) (a : AltOperand)
  /-- STBA (R186). -/
  | stba (rd rs1 : RegNum) (a : AltOperand)
  /-- STHA (R187). -/
  | stha (rd rs1 : RegNum) (a : AltOperand)
  /-- STDA (R189). -/
  | stda (rd rs1 : RegNum) (a : AltOperand)
  /-- LDSBA (R176). -/
  | ldsba (rd rs1 : RegNum) (a : AltOperand)
  /-- LDSHA (R177). -/
  | ldsha (rd rs1 : RegNum) (a : AltOperand)
  /-- LDSTUBA (R191). -/
  | ldstuba (rd rs1 : RegNum) (a : AltOperand)
  /-- LDF (R366). -/
  | ldf (rd rs1 : RegNum) (a : FpOperand)
  /-- LDFSR (R370). -/
  | ldfsr (rd rs1 : RegNum) (a : FpOperand)
  /-- LDDF (R367). -/
  | lddf (rd rs1 : RegNum) (a : FpOperand)
  /-- STF (R372). -/
  | stf (rd rs1 : RegNum) (a : FpOperand)
  /-- STFSR (R371). -/
  | stfsr (rd rs1 : RegNum) (a : FpOperand)
  /-- STDFQ (R376). -/
  | stdfq (rd rs1 : RegNum) (a : FpOperand)
  /-- STDF (R373). -/
  | stdf (rd rs1 : RegNum) (a : FpOperand)
  /-- ADD (R226). -/
  | add (rd rs1 : RegNum) (o : RegImm)
  /-- ADDcc (R227). -/
  | addcc (rd rs1 : RegNum) (o : RegImm)
  /-- ADDX (R228). -/
  | addx (rd rs1 : RegNum) (o : RegImm)
  /-- ADDXcc (R229). -/
  | addxcc (rd rs1 : RegNum) (o : RegImm)
  /-- SUB (R230). -/
  | sub (rd rs1 : RegNum) (o : RegImm)
  /-- SUBcc (R231). -/
  | subcc (rd rs1 : RegNum) (o : RegImm)
  /-- SUBX (R232). -/
  | subx (rd rs1 : RegNum) (o : RegImm)
  /-- SUBXcc (R233). -/
  | subxcc (rd rs1 : RegNum) (o : RegImm)
  /-- TADDcc (R241). -/
  | taddcc (rd rs1 : RegNum) (o : RegImm)
  /-- TSUBcc (R242). -/
  | tsubcc (rd rs1 : RegNum) (o : RegImm)
  /-- TADDccTV (R243). -/
  | taddcctv (rd rs1 : RegNum) (o : RegImm)
  /-- TSUBccTV (R244). -/
  | tsubcctv (rd rs1 : RegNum) (o : RegImm)
  /-- MULScc (R250). -/
  | mulscc (rd rs1 : RegNum) (o : RegImm)
  /-- AND (R252). -/
  | and (rd rs1 : RegNum) (o : RegImm)
  /-- ANDcc (R253). -/
  | andcc (rd rs1 : RegNum) (o : RegImm)
  /-- ANDN (R254). -/
  | andn (rd rs1 : RegNum) (o : RegImm)
  /-- ANDNcc (R255). -/
  | andncc (rd rs1 : RegNum) (o : RegImm)
  /-- OR (R256). -/
  | or (rd rs1 : RegNum) (o : RegImm)
  /-- ORcc (R257). -/
  | orcc (rd rs1 : RegNum) (o : RegImm)
  /-- ORN (R258). -/
  | orn (rd rs1 : RegNum) (o : RegImm)
  /-- ORNcc (R259). -/
  | orncc (rd rs1 : RegNum) (o : RegImm)
  /-- XOR (R260). -/
  | xor (rd rs1 : RegNum) (o : RegImm)
  /-- XORcc (R261). -/
  | xorcc (rd rs1 : RegNum) (o : RegImm)
  /-- XNOR (R262). -/
  | xnor (rd rs1 : RegNum) (o : RegImm)
  /-- XNORcc (R263). -/
  | xnorcc (rd rs1 : RegNum) (o : RegImm)
  /-- SLL (R266). -/
  | sll (rd rs1 : RegNum) (o : RegImm)
  /-- SRL (R267). -/
  | srl (rd rs1 : RegNum) (o : RegImm)
  /-- SRA (R268). -/
  | sra (rd rs1 : RegNum) (o : RegImm)
  /-- SAVE (R272). -/
  | save (rd rs1 : RegNum) (o : RegImm)
  /-- RESTORE (R273). -/
  | restore (rd rs1 : RegNum) (o : RegImm)
  /-- SETHI (R275). -/
  | sethi (rd : RegNum) (imm22 : BitVec 22)
  /-- BA (R294). -/
  | ba (a : Bool) (disp22 : BitVec 22)
  /-- BN (R294). -/
  | bn (a : Bool) (disp22 : BitVec 22)
  /-- BNE (R294). -/
  | bne (a : Bool) (disp22 : BitVec 22)
  /-- BE (R294). -/
  | be (a : Bool) (disp22 : BitVec 22)
  /-- BG (R294). -/
  | bg (a : Bool) (disp22 : BitVec 22)
  /-- BLE (R294). -/
  | ble (a : Bool) (disp22 : BitVec 22)
  /-- BGE (R294). -/
  | bge (a : Bool) (disp22 : BitVec 22)
  /-- BL (R294). -/
  | bl (a : Bool) (disp22 : BitVec 22)
  /-- BGU (R294). -/
  | bgu (a : Bool) (disp22 : BitVec 22)
  /-- BLEU (R294). -/
  | bleu (a : Bool) (disp22 : BitVec 22)
  /-- BCC (R294). -/
  | bcc (a : Bool) (disp22 : BitVec 22)
  /-- BCS (R294). -/
  | bcs (a : Bool) (disp22 : BitVec 22)
  /-- BPOS (R294). -/
  | bpos (a : Bool) (disp22 : BitVec 22)
  /-- BNEG (R294). -/
  | bneg (a : Bool) (disp22 : BitVec 22)
  /-- BVC (R294). -/
  | bvc (a : Bool) (disp22 : BitVec 22)
  /-- BVS (R294). -/
  | bvs (a : Bool) (disp22 : BitVec 22)
  /-- CALL (R296). -/
  | call (disp30 : BitVec 30)
  /-- JMPL (R300). -/
  | jmpl (rd rs1 : RegNum) (o : RegImm)
  /-- RETT (R305). -/
  | rett (rs1 : RegNum) (o : RegImm)
  /-- TA (R302). -/
  | ta (rs1 : RegNum) (o : RegImm)
  /-- TN (R302). -/
  | tn (rs1 : RegNum) (o : RegImm)
  /-- TNE (R302). -/
  | tne (rs1 : RegNum) (o : RegImm)
  /-- TE (R302). -/
  | te (rs1 : RegNum) (o : RegImm)
  /-- TG (R302). -/
  | tg (rs1 : RegNum) (o : RegImm)
  /-- TLE (R302). -/
  | tle (rs1 : RegNum) (o : RegImm)
  /-- TGE (R302). -/
  | tge (rs1 : RegNum) (o : RegImm)
  /-- TL (R302). -/
  | tl (rs1 : RegNum) (o : RegImm)
  /-- TGU (R302). -/
  | tgu (rs1 : RegNum) (o : RegImm)
  /-- TLEU (R302). -/
  | tleu (rs1 : RegNum) (o : RegImm)
  /-- TCC (R302). -/
  | tcc (rs1 : RegNum) (o : RegImm)
  /-- TCS (R302). -/
  | tcs (rs1 : RegNum) (o : RegImm)
  /-- TPOS (R302). -/
  | tpos (rs1 : RegNum) (o : RegImm)
  /-- TNEG (R302). -/
  | tneg (rs1 : RegNum) (o : RegImm)
  /-- TVC (R302). -/
  | tvc (rs1 : RegNum) (o : RegImm)
  /-- TVS (R302). -/
  | tvs (rs1 : RegNum) (o : RegImm)
  /-- RDY (R332). -/
  | rdy (rd : RegNum)
  /-- RDPSR (R333). -/
  | rdpsr (rd : RegNum)
  /-- RDWIM (R334). -/
  | rdwim (rd : RegNum)
  /-- RDTBR (R335). -/
  | rdtbr (rd : RegNum)
  /-- WRY (R337). -/
  | wry (rs1 : RegNum) (o : RegImm)
  /-- WRPSR (R336). -/
  | wrpsr (rs1 : RegNum) (o : RegImm)
  /-- WRWIM (R338). -/
  | wrwim (rs1 : RegNum) (o : RegImm)
  /-- WRTBR (R339). -/
  | wrtbr (rs1 : RegNum) (o : RegImm)
  /-- FMOVS (R363). -/
  | fmovs (rd rs1 rs2 : RegNum)
  /-- FNEGS (R363). -/
  | fnegs (rd rs1 rs2 : RegNum)
  /-- FABS (R363). -/
  | fabs (rd rs1 rs2 : RegNum)
  /-- FADDS (R363). -/
  | fadds (rd rs1 rs2 : RegNum)
  /-- FADDD (R363). -/
  | faddd (rd rs1 rs2 : RegNum)
  /-- FSUBS (R363). -/
  | fsubs (rd rs1 rs2 : RegNum)
  /-- FSUBD (R363). -/
  | fsubd (rd rs1 rs2 : RegNum)
  /-- FMULS (R363). -/
  | fmuls (rd rs1 rs2 : RegNum)
  /-- FMULD (R363). -/
  | fmuld (rd rs1 rs2 : RegNum)
  /-- FDIVS (R363). -/
  | fdivs (rd rs1 rs2 : RegNum)
  /-- FDIVD (R363). -/
  | fdivd (rd rs1 rs2 : RegNum)
  /-- FITOS (R363). -/
  | fitos (rd rs1 rs2 : RegNum)
  /-- FSTOD (R363). -/
  | fstod (rd rs1 rs2 : RegNum)
  /-- FDTOS (R363). -/
  | fdtos (rd rs1 rs2 : RegNum)
  /-- FITOD (R363). -/
  | fitod (rd rs1 rs2 : RegNum)
  /-- FSTOI (R363). -/
  | fstoi (rd rs1 rs2 : RegNum)
  /-- FDTOI (R363). -/
  | fdtoi (rd rs1 rs2 : RegNum)
  /-- FCMPS (R363). -/
  | fcmps (rd rs1 rs2 : RegNum)
  /-- FCMPD (R363). -/
  | fcmpd (rd rs1 rs2 : RegNum)
  /-- FCMPES (R363). -/
  | fcmpes (rd rs1 rs2 : RegNum)
  /-- FCMPED (R363). -/
  | fcmped (rd rs1 rs2 : RegNum)
  /-- FPop1 (R363). -/
  | fpop1 (rd rs1 : RegNum) (opf : BitVec 9) (rs2 : RegNum)
  /-- FPop2 (R363). -/
  | fpop2 (rd rs1 : RegNum) (opf : BitVec 9) (rs2 : RegNum)
  /-- FBA (R368). -/
  | fba (a : Bool) (disp22 : BitVec 22)
  /-- FBN (R368). -/
  | fbn (a : Bool) (disp22 : BitVec 22)
  /-- FBU (R368). -/
  | fbu (a : Bool) (disp22 : BitVec 22)
  /-- FBG (R368). -/
  | fbg (a : Bool) (disp22 : BitVec 22)
  /-- FBUG (R368). -/
  | fbug (a : Bool) (disp22 : BitVec 22)
  /-- FBL (R368). -/
  | fbl (a : Bool) (disp22 : BitVec 22)
  /-- FBUL (R368). -/
  | fbul (a : Bool) (disp22 : BitVec 22)
  /-- FBLG (R368). -/
  | fblg (a : Bool) (disp22 : BitVec 22)
  /-- FBNE (R368). -/
  | fbne (a : Bool) (disp22 : BitVec 22)
  /-- FBE (R368). -/
  | fbe (a : Bool) (disp22 : BitVec 22)
  /-- FBUE (R368). -/
  | fbue (a : Bool) (disp22 : BitVec 22)
  /-- FBGE (R368). -/
  | fbge (a : Bool) (disp22 : BitVec 22)
  /-- FBUGE (R368). -/
  | fbuge (a : Bool) (disp22 : BitVec 22)
  /-- FBLE (R368). -/
  | fble (a : Bool) (disp22 : BitVec 22)
  /-- FBULE (R368). -/
  | fbule (a : Bool) (disp22 : BitVec 22)
  /-- FBO (R368). -/
  | fbo (a : Bool) (disp22 : BitVec 22)
  /-- UNIMP (R374). -/
  | unimp (const22 : BitVec 22)
  /-- IFLUSH (R375). -/
  | iflush (rs1 : RegNum) (o : RegImm)
deriving DecidableEq, Repr

end Sys2Proof
end

