-- ==== Sys2Proof/Decode.lean ====
section
/-! DEFINITION. From words to instructions (30_encoding R120 to R139), and back. Decoding is total: a word is an
instruction, an unassigned encoding (which raises illegal_instruction, R138), or a slot the spec refuses
(R139). The encoder follows the same tables and writes zeros into ignored bits. -/

namespace Sys2Proof

/-- What a word decodes to. -/
inductive Decoded where
  /-- An instruction of the opcode table. -/
  | instr (i : Instr)
  /-- An encoding no table assigns: the machine raises illegal_instruction (30_encoding R138, D6). -/
  | unassigned
  /-- The op3 slots of SWAP and SWAPA, for which a model defines no behaviour (R139, C8). -/
  | swapSlot
  /-- The coprocessor slots, for which a model defines no behaviour (R139, C16). -/
  | coprocessorSlot
  /-- Fewer than four bytes: no instruction word at all (R120). -/
  | truncated
deriving DecidableEq, Repr

/-! ### Fields (30_encoding R121 to R126) -/

/-- Bits 31:30, the format selector (R121). -/
def fieldOp (w : Word) : BitVec 2 := w.extractLsb' 30 2
/-- Bits 29:25. -/
def fieldRd (w : Word) : RegNum := w.extractLsb' 25 5
/-- Bit 29, the annul bit of Format 2b. -/
def fieldA (w : Word) : Bool := w.getLsbD 29
/-- Bits 28:25, the condition of Bicc, FBfcc and Ticc (R136, D17). -/
def fieldCond (w : Word) : BitVec 4 := w.extractLsb' 25 4
/-- Bits 24:22, the selector of Format 2. -/
def fieldOp2 (w : Word) : BitVec 3 := w.extractLsb' 22 3
/-- Bits 24:19, the selector of Format 3. -/
def fieldOp3 (w : Word) : BitVec 6 := w.extractLsb' 19 6
/-- Bits 18:14. -/
def fieldRs1 (w : Word) : RegNum := w.extractLsb' 14 5
/-- Bit 13. -/
def fieldI (w : Word) : Bool := w.getLsbD 13
/-- Bits 12:5 of an alternate-space instruction. -/
def fieldAsi (w : Word) : Asi := w.extractLsb' 5 8
/-- Bits 13:5 of Format 3c. -/
def fieldOpf (w : Word) : BitVec 9 := w.extractLsb' 5 9
/-- Bits 4:0. -/
def fieldRs2 (w : Word) : RegNum := w.extractLsb' 0 5
/-- Bits 12:0. -/
def fieldSimm13 (w : Word) : BitVec 13 := w.extractLsb' 0 13
/-- Bits 21:0, imm22 or disp22. -/
def fieldLow22 (w : Word) : BitVec 22 := w.extractLsb' 0 22
/-- Bits 29:0, disp30. -/
def fieldDisp30 (w : Word) : BitVec 30 := w.extractLsb' 0 30

/-- The second operand of Format 3a or 3b (R127); bits 12:5 are ignored when i = 0 (R129). -/
def fieldRegImm (w : Word) : RegImm :=
  if fieldI w then .imm (fieldSimm13 w) else .reg (fieldRs2 w)

/-- The operand of an alternate-space instruction (40_data_transfer R162). -/
def fieldAlt (w : Word) : AltOperand :=
  if fieldI w then .imm (fieldSimm13 w) else .reg (fieldAsi w) (fieldRs2 w)

/-- The operand of a floating point load or store. -/
def fieldFp (w : Word) : FpOperand :=
  if fieldI w then .imm (fieldSimm13 w) else .reg (fieldAsi w) (fieldRs2 w)

/-! ### The opcode map -/

/-- The Bicc instruction of a condition (30_encoding R136); the last row is cond 1111. -/
def biccOf (cond : BitVec 4) (a : Bool) (disp22 : BitVec 22) : Instr :=
  match cond with
  | 0#4 => .bn a disp22
  | 1#4 => .be a disp22
  | 2#4 => .ble a disp22
  | 3#4 => .bl a disp22
  | 4#4 => .bleu a disp22
  | 5#4 => .bcs a disp22
  | 6#4 => .bneg a disp22
  | 7#4 => .bvs a disp22
  | 8#4 => .ba a disp22
  | 9#4 => .bne a disp22
  | 10#4 => .bg a disp22
  | 11#4 => .bge a disp22
  | 12#4 => .bgu a disp22
  | 13#4 => .bcc a disp22
  | 14#4 => .bpos a disp22
  | _ => .bvc a disp22

/-- The FBfcc instruction of a condition (44_fp_and_other R368; PRESUMED, log 25); the last row is cond 1111. -/
def fbfccOf (cond : BitVec 4) (a : Bool) (disp22 : BitVec 22) : Instr :=
  match cond with
  | 0#4 => .fbn a disp22
  | 1#4 => .fbne a disp22
  | 2#4 => .fblg a disp22
  | 3#4 => .fbul a disp22
  | 4#4 => .fbl a disp22
  | 5#4 => .fbug a disp22
  | 6#4 => .fbg a disp22
  | 7#4 => .fbu a disp22
  | 8#4 => .fba a disp22
  | 9#4 => .fbe a disp22
  | 10#4 => .fbue a disp22
  | 11#4 => .fbge a disp22
  | 12#4 => .fbuge a disp22
  | 13#4 => .fble a disp22
  | 14#4 => .fbule a disp22
  | _ => .fbo a disp22

/-- The Ticc instruction of a condition (30_encoding R136); the last row is cond 1111. -/
def ticcOf (cond : BitVec 4) (rs1 : RegNum) (o : RegImm) : Instr :=
  match cond with
  | 0#4 => .tn rs1 o
  | 1#4 => .te rs1 o
  | 2#4 => .tle rs1 o
  | 3#4 => .tl rs1 o
  | 4#4 => .tleu rs1 o
  | 5#4 => .tcs rs1 o
  | 6#4 => .tneg rs1 o
  | 7#4 => .tvs rs1 o
  | 8#4 => .ta rs1 o
  | 9#4 => .tne rs1 o
  | 10#4 => .tg rs1 o
  | 11#4 => .tge rs1 o
  | 12#4 => .tgu rs1 o
  | 13#4 => .tcc rs1 o
  | 14#4 => .tpos rs1 o
  | _ => .tvc rs1 o

/-- The floating point operate instruction of an opf with op3 = 0x34 (30_encoding R134): a named one, or the
general row for every other opf (44_fp_and_other R363). -/
def fpop1Of (opf : BitVec 9) (rd rs1 rs2 : RegNum) : Instr :=
  match opf with
  | 0x001#9 => .fmovs rd rs1 rs2
  | 0x005#9 => .fnegs rd rs1 rs2
  | 0x009#9 => .fabs rd rs1 rs2
  | 0x041#9 => .fadds rd rs1 rs2
  | 0x042#9 => .faddd rd rs1 rs2
  | 0x045#9 => .fsubs rd rs1 rs2
  | 0x046#9 => .fsubd rd rs1 rs2
  | 0x049#9 => .fmuls rd rs1 rs2
  | 0x04a#9 => .fmuld rd rs1 rs2
  | 0x04d#9 => .fdivs rd rs1 rs2
  | 0x04e#9 => .fdivd rd rs1 rs2
  | 0x0c4#9 => .fitos rd rs1 rs2
  | 0x0c5#9 => .fstod rd rs1 rs2
  | 0x0c6#9 => .fdtos rd rs1 rs2
  | 0x0c8#9 => .fitod rd rs1 rs2
  | 0x0d1#9 => .fstoi rd rs1 rs2
  | 0x0d2#9 => .fdtoi rd rs1 rs2
  | _ => .fpop1 rd rs1 opf rs2

/-- The floating point operate instruction of an opf with op3 = 0x35 (30_encoding R134): a named one, or the
general row for every other opf (44_fp_and_other R363). -/
def fpop2Of (opf : BitVec 9) (rd rs1 rs2 : RegNum) : Instr :=
  match opf with
  | 0x051#9 => .fcmps rd rs1 rs2
  | 0x052#9 => .fcmpd rd rs1 rs2
  | 0x055#9 => .fcmpes rd rs1 rs2
  | 0x056#9 => .fcmped rd rs1 rs2
  | _ => .fpop2 rd rs1 opf rs2

/-- op = 10, by op3 (30_encoding R132). -/
def decodeArith (w : Word) : Decoded :=
  let rd := fieldRd w
  let rs1 := fieldRs1 w
  let o := fieldRegImm w
  match fieldOp3 w with
  | 0x00#6 => .instr (.add rd rs1 o)
  | 0x01#6 => .instr (.and rd rs1 o)
  | 0x02#6 => .instr (.or rd rs1 o)
  | 0x03#6 => .instr (.xor rd rs1 o)
  | 0x04#6 => .instr (.sub rd rs1 o)
  | 0x05#6 => .instr (.andn rd rs1 o)
  | 0x06#6 => .instr (.orn rd rs1 o)
  | 0x07#6 => .instr (.xnor rd rs1 o)
  | 0x08#6 => .instr (.addx rd rs1 o)
  | 0x0c#6 => .instr (.subx rd rs1 o)
  | 0x10#6 => .instr (.addcc rd rs1 o)
  | 0x11#6 => .instr (.andcc rd rs1 o)
  | 0x12#6 => .instr (.orcc rd rs1 o)
  | 0x13#6 => .instr (.xorcc rd rs1 o)
  | 0x14#6 => .instr (.subcc rd rs1 o)
  | 0x15#6 => .instr (.andncc rd rs1 o)
  | 0x16#6 => .instr (.orncc rd rs1 o)
  | 0x17#6 => .instr (.xnorcc rd rs1 o)
  | 0x18#6 => .instr (.addxcc rd rs1 o)
  | 0x1c#6 => .instr (.subxcc rd rs1 o)
  | 0x20#6 => .instr (.taddcc rd rs1 o)
  | 0x21#6 => .instr (.tsubcc rd rs1 o)
  | 0x22#6 => .instr (.taddcctv rd rs1 o)
  | 0x23#6 => .instr (.tsubcctv rd rs1 o)
  | 0x24#6 => .instr (.mulscc rd rs1 o)
  | 0x25#6 => .instr (.sll rd rs1 o)
  | 0x26#6 => .instr (.srl rd rs1 o)
  | 0x27#6 => .instr (.sra rd rs1 o)
  | 0x28#6 => .instr (.rdy rd)
  | 0x29#6 => .instr (.rdpsr rd)
  | 0x2a#6 => .instr (.rdwim rd)
  | 0x2b#6 => .instr (.rdtbr rd)
  | 0x30#6 => .instr (.wry rs1 o)
  | 0x31#6 => .instr (.wrpsr rs1 o)
  | 0x32#6 => .instr (.wrwim rs1 o)
  | 0x33#6 => .instr (.wrtbr rs1 o)
  | 0x38#6 => .instr (.jmpl rd rs1 o)
  | 0x39#6 => .instr (.rett rs1 o)
  | 0x3b#6 => .instr (.iflush rs1 o)
  | 0x3c#6 => .instr (.save rd rs1 o)
  | 0x3d#6 => .instr (.restore rd rs1 o)
  | 0x3a#6 => .instr (ticcOf (fieldCond w) rs1 o)
  | 0x34#6 => .instr (fpop1Of (fieldOpf w) rd rs1 (fieldRs2 w))
  | 0x35#6 => .instr (fpop2Of (fieldOpf w) rd rs1 (fieldRs2 w))
  | 0x36#6 => .coprocessorSlot
  | 0x37#6 => .coprocessorSlot
  | _ => .unassigned

/-- op = 11, by op3 (30_encoding R133). -/
def decodeMemory (w : Word) : Decoded :=
  let rd := fieldRd w
  let rs1 := fieldRs1 w
  let o := fieldRegImm w
  let a := fieldAlt w
  let f := fieldFp w
  match fieldOp3 w with
  | 0x00#6 => .instr (.ld rd rs1 o)
  | 0x01#6 => .instr (.ldub rd rs1 o)
  | 0x02#6 => .instr (.lduh rd rs1 o)
  | 0x03#6 => .instr (.ldd rd rs1 o)
  | 0x04#6 => .instr (.st rd rs1 o)
  | 0x05#6 => .instr (.stb rd rs1 o)
  | 0x06#6 => .instr (.sth rd rs1 o)
  | 0x07#6 => .instr (.std rd rs1 o)
  | 0x09#6 => .instr (.ldsb rd rs1 o)
  | 0x0a#6 => .instr (.ldsh rd rs1 o)
  | 0x0d#6 => .instr (.ldstub rd rs1 o)
  | 0x10#6 => .instr (.lda rd rs1 a)
  | 0x11#6 => .instr (.lduba rd rs1 a)
  | 0x12#6 => .instr (.lduha rd rs1 a)
  | 0x13#6 => .instr (.ldda rd rs1 a)
  | 0x14#6 => .instr (.sta rd rs1 a)
  | 0x15#6 => .instr (.stba rd rs1 a)
  | 0x16#6 => .instr (.stha rd rs1 a)
  | 0x17#6 => .instr (.stda rd rs1 a)
  | 0x19#6 => .instr (.ldsba rd rs1 a)
  | 0x1a#6 => .instr (.ldsha rd rs1 a)
  | 0x1d#6 => .instr (.ldstuba rd rs1 a)
  | 0x20#6 => .instr (.ldf rd rs1 f)
  | 0x21#6 => .instr (.ldfsr rd rs1 f)
  | 0x23#6 => .instr (.lddf rd rs1 f)
  | 0x24#6 => .instr (.stf rd rs1 f)
  | 0x25#6 => .instr (.stfsr rd rs1 f)
  | 0x26#6 => .instr (.stdfq rd rs1 f)
  | 0x27#6 => .instr (.stdf rd rs1 f)
  | 0x0f#6 => .swapSlot
  | 0x1f#6 => .swapSlot
  | 0x30#6 => .coprocessorSlot
  | 0x31#6 => .coprocessorSlot
  | 0x32#6 => .coprocessorSlot
  | 0x33#6 => .coprocessorSlot
  | 0x34#6 => .coprocessorSlot
  | 0x35#6 => .coprocessorSlot
  | 0x36#6 => .coprocessorSlot
  | 0x37#6 => .coprocessorSlot
  | _ => .unassigned

/-- op = 00, by op2 (30_encoding R130; rows 000 and 110 PRESUMED, log 25). -/
def decodeFormat2 (w : Word) : Decoded :=
  match fieldOp2 w with
  | 0#3 => .instr (.unimp (fieldLow22 w))
  | 2#3 => .instr (biccOf (fieldCond w) (fieldA w) (fieldLow22 w))
  | 4#3 => .instr (.sethi (fieldRd w) (fieldLow22 w))
  | 6#3 => .instr (fbfccOf (fieldCond w) (fieldA w) (fieldLow22 w))
  | 7#3 => .coprocessorSlot
  | _ => .unassigned

/-- The decode procedure (30_encoding R137). -/
def decode (w : Word) : Decoded :=
  match fieldOp w with
  | 1#2 => .instr (.call (fieldDisp30 w))
  | 0#2 => decodeFormat2 w
  | 2#2 => decodeArith w
  | _ => decodeMemory w

/-! ### Words in memory: big-endian (20_memory R88, R89) -/

/-- The word whose bytes, from the lowest address on, are these four (20_memory R88). -/
def wordOfBytes (b0 b1 b2 b3 : Byte) : Word := b0 ++ b1 ++ b2 ++ b3

/-- The halfword whose bytes, from the lowest address on, are these two (20_memory R88). -/
def halfOfBytes (b0 b1 : Byte) : BitVec 16 := b0 ++ b1

/-- Byte `k` of a word, byte 0 being the most significant, at the lowest address (20_memory R88). -/
def byteOfWord (v : Word) (k : Nat) : Byte := v.extractLsb' (8 * (3 - k)) 8

/-- The four bytes of a word in the order memory holds them (20_memory R88). -/
def bytesOfWord (v : Word) : List Byte := [byteOfWord v 0, byteOfWord v 1, byteOfWord v 2, byteOfWord v 3]

/-- Decoding of the bytes at an instruction's address: the first four are its word (30_encoding R120). -/
def decodeBytes : List Byte → Decoded
  | b0 :: b1 :: b2 :: b3 :: _ => decode (wordOfBytes b0 b1 b2 b3)
  | _ => .truncated

/-- The instruction read from the low `nbits` bits of `w`, bits above them zero, laid out as memory holds
them. -/
def decodeTableWord (nbits w : Nat) : Option Instr :=
  match decodeBytes (bytesOfWord (BitVec.ofNat 32 (w % 2 ^ nbits))) with
  | .instr i => some i
  | _ => none

/-! ### The encoder -/

/-- Format 1 (30_encoding R122). -/
def fmt1 (disp30 : BitVec 30) : Word := 1#2 ++ disp30
/-- Format 2a (R123). -/
def fmt2a (rd : RegNum) (op2 : BitVec 3) (imm22 : BitVec 22) : Word := 0#2 ++ rd ++ op2 ++ imm22
/-- Format 2b (R123). -/
def fmt2b (a : Bool) (cond : BitVec 4) (op2 : BitVec 3) (disp22 : BitVec 22) : Word :=
  0#2 ++ BitVec.ofBool a ++ cond ++ op2 ++ disp22
/-- Format 3 (R124): `tail` is bits 13:0. -/
def fmt3 (op : BitVec 2) (rd : RegNum) (op3 : BitVec 6) (rs1 : RegNum) (tail : BitVec 14) : Word :=
  op ++ rd ++ op3 ++ rs1 ++ tail

/-- Bits 13:0 of Format 3a or 3b. -/
def tailRegImm : RegImm → BitVec 14
  | .reg rs2 => 0#1 ++ 0#8 ++ rs2
  | .imm simm13 => 1#1 ++ simm13

/-- Bits 13:0 of an alternate-space instruction. -/
def tailAlt : AltOperand → BitVec 14
  | .reg asi rs2 => 0#1 ++ asi ++ rs2
  | .imm simm13 => 1#1 ++ simm13

/-- Bits 13:0 of a floating point load or store. -/
def tailFp : FpOperand → BitVec 14
  | .reg ignored rs2 => 0#1 ++ ignored ++ rs2
  | .imm simm13 => 1#1 ++ simm13

/-- The word of an instruction, ignored bits zero. -/
def encode : Instr → Word
  | .ld rd rs1 o => fmt3 3#2 rd 0x00#6 rs1 (tailRegImm o)
  | .ldub rd rs1 o => fmt3 3#2 rd 0x01#6 rs1 (tailRegImm o)
  | .lduh rd rs1 o => fmt3 3#2 rd 0x02#6 rs1 (tailRegImm o)
  | .ldd rd rs1 o => fmt3 3#2 rd 0x03#6 rs1 (tailRegImm o)
  | .st rd rs1 o => fmt3 3#2 rd 0x04#6 rs1 (tailRegImm o)
  | .stb rd rs1 o => fmt3 3#2 rd 0x05#6 rs1 (tailRegImm o)
  | .sth rd rs1 o => fmt3 3#2 rd 0x06#6 rs1 (tailRegImm o)
  | .std rd rs1 o => fmt3 3#2 rd 0x07#6 rs1 (tailRegImm o)
  | .ldsb rd rs1 o => fmt3 3#2 rd 0x09#6 rs1 (tailRegImm o)
  | .ldsh rd rs1 o => fmt3 3#2 rd 0x0a#6 rs1 (tailRegImm o)
  | .ldstub rd rs1 o => fmt3 3#2 rd 0x0d#6 rs1 (tailRegImm o)
  | .lda rd rs1 a => fmt3 3#2 rd 0x10#6 rs1 (tailAlt a)
  | .lduba rd rs1 a => fmt3 3#2 rd 0x11#6 rs1 (tailAlt a)
  | .lduha rd rs1 a => fmt3 3#2 rd 0x12#6 rs1 (tailAlt a)
  | .ldda rd rs1 a => fmt3 3#2 rd 0x13#6 rs1 (tailAlt a)
  | .sta rd rs1 a => fmt3 3#2 rd 0x14#6 rs1 (tailAlt a)
  | .stba rd rs1 a => fmt3 3#2 rd 0x15#6 rs1 (tailAlt a)
  | .stha rd rs1 a => fmt3 3#2 rd 0x16#6 rs1 (tailAlt a)
  | .stda rd rs1 a => fmt3 3#2 rd 0x17#6 rs1 (tailAlt a)
  | .ldsba rd rs1 a => fmt3 3#2 rd 0x19#6 rs1 (tailAlt a)
  | .ldsha rd rs1 a => fmt3 3#2 rd 0x1a#6 rs1 (tailAlt a)
  | .ldstuba rd rs1 a => fmt3 3#2 rd 0x1d#6 rs1 (tailAlt a)
  | .ldf rd rs1 a => fmt3 3#2 rd 0x20#6 rs1 (tailFp a)
  | .ldfsr rd rs1 a => fmt3 3#2 rd 0x21#6 rs1 (tailFp a)
  | .lddf rd rs1 a => fmt3 3#2 rd 0x23#6 rs1 (tailFp a)
  | .stf rd rs1 a => fmt3 3#2 rd 0x24#6 rs1 (tailFp a)
  | .stfsr rd rs1 a => fmt3 3#2 rd 0x25#6 rs1 (tailFp a)
  | .stdfq rd rs1 a => fmt3 3#2 rd 0x26#6 rs1 (tailFp a)
  | .stdf rd rs1 a => fmt3 3#2 rd 0x27#6 rs1 (tailFp a)
  | .add rd rs1 o => fmt3 2#2 rd 0x00#6 rs1 (tailRegImm o)
  | .addcc rd rs1 o => fmt3 2#2 rd 0x10#6 rs1 (tailRegImm o)
  | .addx rd rs1 o => fmt3 2#2 rd 0x08#6 rs1 (tailRegImm o)
  | .addxcc rd rs1 o => fmt3 2#2 rd 0x18#6 rs1 (tailRegImm o)
  | .sub rd rs1 o => fmt3 2#2 rd 0x04#6 rs1 (tailRegImm o)
  | .subcc rd rs1 o => fmt3 2#2 rd 0x14#6 rs1 (tailRegImm o)
  | .subx rd rs1 o => fmt3 2#2 rd 0x0c#6 rs1 (tailRegImm o)
  | .subxcc rd rs1 o => fmt3 2#2 rd 0x1c#6 rs1 (tailRegImm o)
  | .taddcc rd rs1 o => fmt3 2#2 rd 0x20#6 rs1 (tailRegImm o)
  | .tsubcc rd rs1 o => fmt3 2#2 rd 0x21#6 rs1 (tailRegImm o)
  | .taddcctv rd rs1 o => fmt3 2#2 rd 0x22#6 rs1 (tailRegImm o)
  | .tsubcctv rd rs1 o => fmt3 2#2 rd 0x23#6 rs1 (tailRegImm o)
  | .mulscc rd rs1 o => fmt3 2#2 rd 0x24#6 rs1 (tailRegImm o)
  | .and rd rs1 o => fmt3 2#2 rd 0x01#6 rs1 (tailRegImm o)
  | .andcc rd rs1 o => fmt3 2#2 rd 0x11#6 rs1 (tailRegImm o)
  | .andn rd rs1 o => fmt3 2#2 rd 0x05#6 rs1 (tailRegImm o)
  | .andncc rd rs1 o => fmt3 2#2 rd 0x15#6 rs1 (tailRegImm o)
  | .or rd rs1 o => fmt3 2#2 rd 0x02#6 rs1 (tailRegImm o)
  | .orcc rd rs1 o => fmt3 2#2 rd 0x12#6 rs1 (tailRegImm o)
  | .orn rd rs1 o => fmt3 2#2 rd 0x06#6 rs1 (tailRegImm o)
  | .orncc rd rs1 o => fmt3 2#2 rd 0x16#6 rs1 (tailRegImm o)
  | .xor rd rs1 o => fmt3 2#2 rd 0x03#6 rs1 (tailRegImm o)
  | .xorcc rd rs1 o => fmt3 2#2 rd 0x13#6 rs1 (tailRegImm o)
  | .xnor rd rs1 o => fmt3 2#2 rd 0x07#6 rs1 (tailRegImm o)
  | .xnorcc rd rs1 o => fmt3 2#2 rd 0x17#6 rs1 (tailRegImm o)
  | .sll rd rs1 o => fmt3 2#2 rd 0x25#6 rs1 (tailRegImm o)
  | .srl rd rs1 o => fmt3 2#2 rd 0x26#6 rs1 (tailRegImm o)
  | .sra rd rs1 o => fmt3 2#2 rd 0x27#6 rs1 (tailRegImm o)
  | .save rd rs1 o => fmt3 2#2 rd 0x3c#6 rs1 (tailRegImm o)
  | .restore rd rs1 o => fmt3 2#2 rd 0x3d#6 rs1 (tailRegImm o)
  | .sethi rd imm22 => fmt2a rd 4#3 imm22
  | .ba a disp22 => fmt2b a 8#4 2#3 disp22
  | .bn a disp22 => fmt2b a 0#4 2#3 disp22
  | .bne a disp22 => fmt2b a 9#4 2#3 disp22
  | .be a disp22 => fmt2b a 1#4 2#3 disp22
  | .bg a disp22 => fmt2b a 10#4 2#3 disp22
  | .ble a disp22 => fmt2b a 2#4 2#3 disp22
  | .bge a disp22 => fmt2b a 11#4 2#3 disp22
  | .bl a disp22 => fmt2b a 3#4 2#3 disp22
  | .bgu a disp22 => fmt2b a 12#4 2#3 disp22
  | .bleu a disp22 => fmt2b a 4#4 2#3 disp22
  | .bcc a disp22 => fmt2b a 13#4 2#3 disp22
  | .bcs a disp22 => fmt2b a 5#4 2#3 disp22
  | .bpos a disp22 => fmt2b a 14#4 2#3 disp22
  | .bneg a disp22 => fmt2b a 6#4 2#3 disp22
  | .bvc a disp22 => fmt2b a 15#4 2#3 disp22
  | .bvs a disp22 => fmt2b a 7#4 2#3 disp22
  | .call disp30 => fmt1 disp30
  | .jmpl rd rs1 o => fmt3 2#2 rd 0x38#6 rs1 (tailRegImm o)
  | .rett rs1 o => fmt3 2#2 0#5 0x39#6 rs1 (tailRegImm o)
  | .ta rs1 o => fmt3 2#2 8#5 0x3a#6 rs1 (tailRegImm o)
  | .tn rs1 o => fmt3 2#2 0#5 0x3a#6 rs1 (tailRegImm o)
  | .tne rs1 o => fmt3 2#2 9#5 0x3a#6 rs1 (tailRegImm o)
  | .te rs1 o => fmt3 2#2 1#5 0x3a#6 rs1 (tailRegImm o)
  | .tg rs1 o => fmt3 2#2 10#5 0x3a#6 rs1 (tailRegImm o)
  | .tle rs1 o => fmt3 2#2 2#5 0x3a#6 rs1 (tailRegImm o)
  | .tge rs1 o => fmt3 2#2 11#5 0x3a#6 rs1 (tailRegImm o)
  | .tl rs1 o => fmt3 2#2 3#5 0x3a#6 rs1 (tailRegImm o)
  | .tgu rs1 o => fmt3 2#2 12#5 0x3a#6 rs1 (tailRegImm o)
  | .tleu rs1 o => fmt3 2#2 4#5 0x3a#6 rs1 (tailRegImm o)
  | .tcc rs1 o => fmt3 2#2 13#5 0x3a#6 rs1 (tailRegImm o)
  | .tcs rs1 o => fmt3 2#2 5#5 0x3a#6 rs1 (tailRegImm o)
  | .tpos rs1 o => fmt3 2#2 14#5 0x3a#6 rs1 (tailRegImm o)
  | .tneg rs1 o => fmt3 2#2 6#5 0x3a#6 rs1 (tailRegImm o)
  | .tvc rs1 o => fmt3 2#2 15#5 0x3a#6 rs1 (tailRegImm o)
  | .tvs rs1 o => fmt3 2#2 7#5 0x3a#6 rs1 (tailRegImm o)
  | .rdy rd => fmt3 2#2 rd 0x28#6 0#5 0#14
  | .rdpsr rd => fmt3 2#2 rd 0x29#6 0#5 0#14
  | .rdwim rd => fmt3 2#2 rd 0x2a#6 0#5 0#14
  | .rdtbr rd => fmt3 2#2 rd 0x2b#6 0#5 0#14
  | .wry rs1 o => fmt3 2#2 0#5 0x30#6 rs1 (tailRegImm o)
  | .wrpsr rs1 o => fmt3 2#2 0#5 0x31#6 rs1 (tailRegImm o)
  | .wrwim rs1 o => fmt3 2#2 0#5 0x32#6 rs1 (tailRegImm o)
  | .wrtbr rs1 o => fmt3 2#2 0#5 0x33#6 rs1 (tailRegImm o)
  | .fmovs rd rs1 rs2 => fmt3 2#2 rd 0x34#6 rs1 (0x001#9 ++ rs2)
  | .fnegs rd rs1 rs2 => fmt3 2#2 rd 0x34#6 rs1 (0x005#9 ++ rs2)
  | .fabs rd rs1 rs2 => fmt3 2#2 rd 0x34#6 rs1 (0x009#9 ++ rs2)
  | .fadds rd rs1 rs2 => fmt3 2#2 rd 0x34#6 rs1 (0x041#9 ++ rs2)
  | .faddd rd rs1 rs2 => fmt3 2#2 rd 0x34#6 rs1 (0x042#9 ++ rs2)
  | .fsubs rd rs1 rs2 => fmt3 2#2 rd 0x34#6 rs1 (0x045#9 ++ rs2)
  | .fsubd rd rs1 rs2 => fmt3 2#2 rd 0x34#6 rs1 (0x046#9 ++ rs2)
  | .fmuls rd rs1 rs2 => fmt3 2#2 rd 0x34#6 rs1 (0x049#9 ++ rs2)
  | .fmuld rd rs1 rs2 => fmt3 2#2 rd 0x34#6 rs1 (0x04a#9 ++ rs2)
  | .fdivs rd rs1 rs2 => fmt3 2#2 rd 0x34#6 rs1 (0x04d#9 ++ rs2)
  | .fdivd rd rs1 rs2 => fmt3 2#2 rd 0x34#6 rs1 (0x04e#9 ++ rs2)
  | .fitos rd rs1 rs2 => fmt3 2#2 rd 0x34#6 rs1 (0x0c4#9 ++ rs2)
  | .fstod rd rs1 rs2 => fmt3 2#2 rd 0x34#6 rs1 (0x0c5#9 ++ rs2)
  | .fdtos rd rs1 rs2 => fmt3 2#2 rd 0x34#6 rs1 (0x0c6#9 ++ rs2)
  | .fitod rd rs1 rs2 => fmt3 2#2 rd 0x34#6 rs1 (0x0c8#9 ++ rs2)
  | .fstoi rd rs1 rs2 => fmt3 2#2 rd 0x34#6 rs1 (0x0d1#9 ++ rs2)
  | .fdtoi rd rs1 rs2 => fmt3 2#2 rd 0x34#6 rs1 (0x0d2#9 ++ rs2)
  | .fcmps rd rs1 rs2 => fmt3 2#2 rd 0x35#6 rs1 (0x051#9 ++ rs2)
  | .fcmpd rd rs1 rs2 => fmt3 2#2 rd 0x35#6 rs1 (0x052#9 ++ rs2)
  | .fcmpes rd rs1 rs2 => fmt3 2#2 rd 0x35#6 rs1 (0x055#9 ++ rs2)
  | .fcmped rd rs1 rs2 => fmt3 2#2 rd 0x35#6 rs1 (0x056#9 ++ rs2)
  | .fpop1 rd rs1 opf rs2 => fmt3 2#2 rd 0x34#6 rs1 (opf ++ rs2)
  | .fpop2 rd rs1 opf rs2 => fmt3 2#2 rd 0x35#6 rs1 (opf ++ rs2)
  | .fba a disp22 => fmt2b a 8#4 6#3 disp22
  | .fbn a disp22 => fmt2b a 0#4 6#3 disp22
  | .fbu a disp22 => fmt2b a 7#4 6#3 disp22
  | .fbg a disp22 => fmt2b a 6#4 6#3 disp22
  | .fbug a disp22 => fmt2b a 5#4 6#3 disp22
  | .fbl a disp22 => fmt2b a 4#4 6#3 disp22
  | .fbul a disp22 => fmt2b a 3#4 6#3 disp22
  | .fblg a disp22 => fmt2b a 2#4 6#3 disp22
  | .fbne a disp22 => fmt2b a 1#4 6#3 disp22
  | .fbe a disp22 => fmt2b a 9#4 6#3 disp22
  | .fbue a disp22 => fmt2b a 10#4 6#3 disp22
  | .fbge a disp22 => fmt2b a 11#4 6#3 disp22
  | .fbuge a disp22 => fmt2b a 12#4 6#3 disp22
  | .fble a disp22 => fmt2b a 13#4 6#3 disp22
  | .fbule a disp22 => fmt2b a 14#4 6#3 disp22
  | .fbo a disp22 => fmt2b a 15#4 6#3 disp22
  | .unimp const22 => fmt2a 0#5 0#3 const22
  | .iflush rs1 o => fmt3 2#2 0#5 0x3b#6 rs1 (tailRegImm o)

end Sys2Proof
end

