-- ==== Sys2Proof/Config.lean ====
section
/-! DEFINITION. What the implementation fixes (00_scope R4; 92_eei_decisions D12), and the free values:
constants without a body, so that nothing can be proved of the value the spec leaves open. Each free value
is applied to the counter `State.free`, which every instruction and every trap entry advances. -/

namespace Sys2Proof.Config

/-- NWINDOWS is 7 on the MB86901 (00_scope R4). -/
abbrev nWindows : Nat := 7

/-- How many instructions after a store may still run from words fetched before it (20_memory R104, D12).
DESIGN CHOICE of the spec. -/
def prefetchDepth : Nat := 4

/-- How many following instructions a delayed-write window covers (43_state_registers R340). -/
def delayLength : Nat := 3

/-- The storage all four assigned address spaces share after reset. DESIGN CHOICE, log 3. -/
def mainStorage : Nat := 8

/-- PSR<19:14> as read by RDPSR (10_state R38, D14). -/
opaque freeReserved : Nat → BitVec 6
/-- Whether a trap inside the window of a WRTBR uses the old TBA (R345). -/
opaque choiceOldTba : Nat → Bool
/-- Whether the interrupt test inside the window of a WRPSR uses the old ET (R342). -/
opaque choiceOldEt : Nat → Bool
/-- Whether the interrupt test inside the window of a WRPSR uses the old PIL (R342). -/
opaque choiceOldPil : Nat → Bool
/-- Which of the words a stored-over location held a fetch returns (20_memory R104). -/
opaque choiceStale : Nat → Nat
/-- Whether the first access of an instruction cut at its second has had its effect (20_memory R108). -/
opaque choicePartial : Nat → Bool
/-- The first word the FPU sources for the FP store whose instruction word is given (44_fp_and_other R365). -/
opaque fpuStoreFirst : Word → Nat → Word
/-- The second word the FPU sources for a doubleword FP store (44_fp_and_other R365, R376). -/
opaque fpuStoreSecond : Word → Nat → Word

end Sys2Proof.Config
end

