-- ==== Sys2Proof/Machine/State.lean ====
section
/-! DEFINITION. The state of the machine as plain data (10_state R20 to R62), the platform's inputs to it
(00_scope R5), the reasons a step can stop, and the state after a reset that follows power-up (R61). -/

namespace Sys2Proof.Machine

/-- A window number, 0 to 6 (10_state R23, R45). -/
abbrev WindowNum := Fin Config.nWindows

/-- The integer condition codes, PSR<23:20> (10_state R37). -/
structure Icc where
  n : Bool
  z : Bool
  v : Bool
  c : Bool
deriving DecidableEq, Repr

/-- The Processor State Register (10_state R36). impl and ver are hardwired to 0 and are no fields; CWP
always names an implemented window (R45). -/
structure Psr where
  icc : Icc
  reserved : BitVec 6
  ec : Bool
  ef : Bool
  pil : BitVec 4
  s : Bool
  ps : Bool
  et : Bool
  cwp : WindowNum
deriving DecidableEq, Repr

/-- A set of PSR fields: those a WRPSR changed (43_state_registers R340). -/
structure PsrFields where
  icc : Bool
  reserved : Bool
  ec : Bool
  ef : Bool
  pil : Bool
  s : Bool
  ps : Bool
  et : Bool
  cwp : Bool
deriving DecidableEq, Repr

/-- No field. -/
def PsrFields.none : PsrFields := ⟨false, false, false, false, false, false, false, false, false⟩

/-- The delayed-write window of the PSR (43_state_registers R340): instructions left, the changed fields, and
the ET and PIL before the window's first write. -/
structure PsrDelay where
  left : Nat
  changed : PsrFields
  oldEt : Bool
  oldPil : BitVec 4
deriving DecidableEq, Repr

/-- No PSR window is open (R340: at 0 the rest is forgotten). -/
def PsrDelay.closed : PsrDelay := ⟨0, PsrFields.none, false, 0⟩

/-- The delayed-write window of the TBR: instructions left and the TBA before the window's write (R340). -/
structure TbrDelay where
  left : Nat
  oldTba : BitVec 20
deriving DecidableEq, Repr

/-- No TBR window is open. -/
def TbrDelay.closed : TbrDelay := ⟨0, 0⟩

/-- The processor mode (10_state R55). In `error` the ERROR output is asserted. -/
inductive Mode where
  | reset
  | execute
  | error
deriving DecidableEq, Repr

/-- Memory: (place, byte) pairs in canonical form (`Memory.wf`). A place is a storage number times 2^32 plus
a 32-bit address. -/
abbrev Memory := List Host.Cell

/-- A word of a storage that a store changed, whose earlier contents may still be executed for `left` more
instructions (20_memory R104). -/
structure StaleWord where
  place : Nat
  old : Word
  left : Nat
deriving DecidableEq, Repr

/-- The platform's answer to one bus transaction (20_memory R84 to R87; 00_scope R5). -/
inductive BusAnswer where
  /-- Plain memory answers: a read gives its bytes, a write changes them. -/
  | memory
  /-- A device answers: a read gives the low bits of `data`, a write is the device's affair. -/
  | device (data : Word)
  /-- MEXC (20_memory R107). -/
  | mexc
  /-- RESET is asserted while the transaction is on the bus: it cuts the instruction (70_reset_and_hazards
  R481). -/
  | reset
  /-- A hold input is never released: the platform never answers (50_bus_signals R398). -/
  | held
deriving DecidableEq, Repr

/-- Whether a bus transaction fetches, reads or writes; a write's datum is right-aligned, for the lanes of
D<31:0> are not said (50_bus_signals R395; 20_memory R87). -/
inductive BusKind where
  | fetch
  | read
  | write (datum : Word)
deriving DecidableEq, Repr

/-- SIZE<1:0>; both transactions of a doubleword instruction are marked `double` (50_bus_signals R395). -/
inductive BusSize where
  | byte
  | half
  | word
  | double
deriving DecidableEq, Repr

/-- One bus transaction as the platform sees it (20_memory R87; 50_bus_signals R392 to R396). DFETCH is
`kind ≠ fetch`; each transaction has its own `lock` (R396; 20_memory R95). -/
structure BusCycle where
  kind : BusKind
  asi : Asi
  addr : Word
  size : BusSize
  /-- LOCK: asserted for a store, a store double and an atomic load-store, and for the second read of a load double
  (R396; 20_memory R95; 40_data_transfer R175). -/
  lock : Bool
  /-- LDST: the operation is an atomic load-store (R396); RD is then released for its read too (R395). -/
  ldst : Bool
deriving DecidableEq, Repr

/-- What reaches the IU at one instruction boundary (00_scope R5). -/
structure Input where
  /-- The filtered level of IRL<3:0> (60_exceptions R440). -/
  irl : BitVec 4
  /-- RESET is asserted (70_reset_and_hazards R480). -/
  reset : Bool
  /-- The FPU asserts FEXC (44_fp_and_other R362); while RESET is held, the level of FEXC itself (log 40). -/
  fexc : Bool
  /-- The FPU drives a new FCC<1:0> (44_fp_and_other R360). -/
  fcc : Option (BitVec 2)
  /-- Bytes other bus masters wrote since the last boundary (20_memory R106). -/
  writes : List Host.Cell
deriving DecidableEq, Repr

/-- Nothing happens at the boundary. -/
def Input.quiet : Input := ⟨0, false, false, none, []⟩

/-- One transfer from the IU to the FPU (44_fp_and_other R360, R363, R365; 50_bus_signals R404). -/
inductive FpuEvent where
  /-- An FPop: its word, then its address, on F<31:0>. -/
  | op (word pc : Word)
  /-- A floating point load or store: its word, then its address. -/
  | loadStore (word pc : Word)
  /-- A word a floating point load returned on D<31:0>. -/
  | data (word : Word)
  /-- FXACK: the floating point exception trap has been recognised. -/
  | fxack
  /-- FLUSH: the load or store handed over was trapped. -/
  | flush
deriving DecidableEq, Repr

/-- The whole machine: the IU's registers, what the delayed writes and the prefetched words leave open, the
memory system, and the platform's coming inputs. Plain data. -/
structure State where
  /-- G[1] to G[7]; G[0] is no state (10_state R22). -/
  globals : Vector Word 7
  /-- W[0] to W[111] (10_state R20, R24). -/
  windowed : Vector Word 112
  /-- 10_state R30. -/
  pc : Word
  /-- 10_state R30. -/
  npc : Word
  /-- 10_state R36. -/
  psr : Psr
  /-- WIM<6:0>; bits 31:7 do not exist (10_state R47). -/
  wim : BitVec 7
  /-- TBR<31:12> (10_state R49). -/
  tba : BitVec 20
  /-- TBR<11:4> (10_state R49). -/
  tt : BitVec 8
  /-- 10_state R52. -/
  y : Word
  /-- 10_state R55. -/
  mode : Mode
  /-- 10_state R56, 43_state_registers R340. -/
  psrDelay : PsrDelay
  /-- 10_state R56: instructions left in the window after a WRWIM. -/
  wimDelay : Nat
  /-- 10_state R56, 43_state_registers R340. -/
  tbrDelay : TbrDelay
  /-- 10_state R56: instructions left in the window after a WRY. -/
  yDelay : Nat
  /-- 20_memory R104. -/
  stale : List StaleWord
  /-- The instruction executed last was a JMPL (42_control_transfer R311). -/
  afterJmpl : Bool
  /-- The bytes of every storage (20_memory R80). -/
  mem : Memory
  /-- The platform's wiring: the storage an ASI reaches; an ASI not listed reaches its own (20_memory R80). -/
  spaces : List (Asi × Nat)
  /-- The level of the TC pin (50_bus_signals R403). -/
  tc : Bool
  /-- The active-low FP pin is low: an FPU is present (50_bus_signals R404). -/
  fpuPresent : Bool
  /-- The FPU's exception pending state, as FEXC shows it (10_state R57). -/
  fexc : Bool
  /-- FCC<1:0> (44_fp_and_other R360). -/
  fcc : BitVec 2
  /-- The transfers made to the FPU, oldest first (44_fp_and_other R360). -/
  fpuOut : List FpuEvent
  /-- The platform's answers to the coming bus transactions; after the last, memory answers (log 5). -/
  bus : List BusAnswer
  /-- The bus transactions of executed instructions, oldest first (20_memory R87, R98; log 39). -/
  busOut : List BusCycle
  /-- What comes at the next boundaries; after the last, nothing happens (log 6). -/
  inputs : List Input
  /-- The model's own counter: which free value comes next (log 32). -/
  free : Nat
deriving DecidableEq, Repr

/-- Why the machine stops. -/
inductive Fault where
  /-- Raised by the step of a machine in error mode while RESET is not asserted: "RESET must be asserted for
  recovery from the error state" (60_exceptions R433, D20). Safe: the model has no successor where the
  hardware is halted. -/
  | haltedInErrorMode
  /-- Raised by an instruction whose bus transaction is never answered: "the model's step does not return
  (stuck)" (50_bus_signals R398). Safe: the model has no successor where the hardware waits for ever. -/
  | heldForever
deriving DecidableEq, Repr

/-- Why an instruction is given no meaning. -/
inductive Refusal where
  /-- Raised by an arm of exec whose instruction has no meaning yet. Safe. -/
  | notModelled (mnemonic : String)
  /-- Raised by LDD, LDDA, STD and STDA with odd rd, for which the model defines no behaviour
  (40_data_transfer R166, D7). Safe: nothing can be proved of what the hardware does. -/
  | oddDoublewordRegister
  /-- Raised by the fetch of a word in the SWAP or SWAPA slot (30_encoding R139, C8). Safe. -/
  | swapSlot
  /-- Raised by the fetch of a word in a coprocessor slot (30_encoding R139, C16). Safe. -/
  | coprocessorSlot
  /-- Raised where an instruction, its fetch, or a trap uses a PSR field that a WRPSR changed within the last three
  instructions: "has no defined behaviour: the model refuses" (43_state_registers R340, R341, R342, R346, D13; log 8).
  Safe: nothing can be proved of what the hardware does with the field. -/
  | psrUnsettled
  /-- Raised by SAVE, RESTORE, RETT and RDWIM within three instructions of a WRWIM (43_state_registers R343, R346, D13;
  log 10). Safe. -/
  | wimUnsettled
  /-- Raised by MULScc and RDY within three instructions of a WRY (43_state_registers R344, R346, D13; log 11). Safe. -/
  | yUnsettled
  /-- Raised by RDTBR within three instructions of a WRTBR (43_state_registers R346, D13; log 12). Safe. -/
  | tbrUnsettled
  /-- Raised by a RETT that passes every check and whose preceding instruction is not a JMPL: it "has no defined
  successor fetch space: the model refuses it" (42_control_transfer R311, D25; log 13). Safe: nothing can be proved of
  where the hardware goes on. -/
  | returnWithoutJmpl
deriving DecidableEq, Repr

/-- Right after the RESET that follows power-up (10_state R61): PC 0, nPC 4, S = 1, ET = 0, execute mode, no
window pending. Every other value is named in logs 1 to 7, 13, 14 and 32. -/
def State.reset : State where
  globals := Vector.replicate 7 0
  windowed := Vector.replicate 112 0
  pc := 0
  npc := 4
  psr := { icc := ⟨false, false, false, false⟩, reserved := 0, ec := false, ef := false, pil := 0,
           s := true, ps := false, et := false, cwp := 0 }
  wim := 0
  tba := 0
  tt := 0
  y := 0
  mode := .execute
  psrDelay := PsrDelay.closed
  wimDelay := 0
  tbrDelay := TbrDelay.closed
  yDelay := 0
  stale := []
  afterJmpl := false
  mem := []
  spaces := [(8, Config.mainStorage), (9, Config.mainStorage), (10, Config.mainStorage), (11, Config.mainStorage)]
  tc := false
  fpuPresent := false
  fexc := false
  fcc := 0
  fpuOut := []
  bus := []
  busOut := []
  inputs := []
  free := 0

end Sys2Proof.Machine
end

