-- ==== Sys2Proof/Machine/Ops.lean ====
section
/-! DEFINITION. The named operations over memory, the bus, the registers, the program counters, the delayed-write
windows and traps. Meanings are written over these. -/

namespace Sys2Proof.Machine

/-! ### Memory -/

/-- What a byte nothing has written reads as. The spec leaves memory contents to the platform. DESIGN CHOICE,
log 2. -/
def unlistedByte (_place : Nat) : Byte := 0

/-- The byte at a place. -/
def Memory.get : Memory → Nat → Byte
  | [], a => unlistedByte a
  | (p, b) :: m, a => if p = a then b else Memory.get m a

/-- Write one byte, keeping the canonical form. -/
def Memory.set : Memory → Nat → Byte → Memory
  | [], a, b => if b = unlistedByte a then [] else [(a, b)]
  | (p, c) :: m, a, b =>
    if a < p then
      if b = unlistedByte a then (p, c) :: m else (a, b) :: (p, c) :: m
    else if a = p then
      if b = unlistedByte a then m else (a, b) :: m
    else (p, c) :: Memory.set m a b

/-- The canonical form: places strictly rising, and no entry equal to what an unlisted place reads as. -/
def Memory.wf : Memory → Bool
  | [] => true
  | (p, b) :: m => b != unlistedByte p && m.all (fun c => decide (p < c.1)) && Memory.wf m

/-- Write bytes at rising places. -/
def Memory.setBytes : Memory → Nat → List Byte → Memory
  | m, _, [] => m
  | m, p, b :: bs => Memory.setBytes (Memory.set m p b) (p + 1) bs

/-- Write each of the listed cells in turn (20_memory R106). -/
def Memory.setCells : Memory → List Host.Cell → Memory
  | m, [] => m
  | m, c :: cs => Memory.setCells (Memory.set m c.1 c.2) cs

/-- The big-endian halfword at a place (20_memory R88). -/
def Memory.half (m : Memory) (p : Nat) : BitVec 16 := halfOfBytes (m.get p) (m.get (p + 1))

/-- The big-endian word at a place (20_memory R88). -/
def Memory.word (m : Memory) (p : Nat) : Word :=
  wordOfBytes (m.get p) (m.get (p + 1)) (m.get (p + 2)) (m.get (p + 3))

/-- The width of one bus transaction (20_memory R94). -/
inductive Size where
  | byte
  | half
  | word
deriving DecidableEq, Repr

/-- The width in bytes. -/
def Size.bytes : Size → Nat
  | .byte => 1
  | .half => 2
  | .word => 4

/-- The storage an address space identifier reaches by the platform's wiring (20_memory R80, R99). -/
def storageOf : List (Asi × Nat) → Asi → Nat
  | [], asi => asi.toNat
  | (a, k) :: rest, asi => if a = asi then k else storageOf rest asi

/-- The place of the byte (asi, addr) (20_memory R80). -/
def placeOf (s : State) (asi : Asi) (addr : Word) : Nat := storageOf s.spaces asi * 2 ^ 32 + addr.toNat

/-- The byte of storage at (asi, addr). -/
def byteAt (s : State) (asi : Asi) (addr : Word) : Byte := s.mem.get (placeOf s asi addr)

/-- The datum of a width at a place, zero-extended (20_memory R84, R88). -/
def readPlace (m : Memory) (p : Nat) : Size → Word
  | .byte => (m.get p).zeroExtend 32
  | .half => (m.half p).zeroExtend 32
  | .word => m.word p

/-- The bytes of a datum as a store of that width lays them out: the low-order bits of the word, most
significant byte first (20_memory R85, R88; 40_data_transfer R164). -/
def storeBytes (v : Word) : Size → List Byte
  | .byte => [byteOfWord v 3]
  | .half => [byteOfWord v 2, byteOfWord v 3]
  | .word => bytesOfWord v

/-- The place of the word that holds a byte. -/
def wordPlace (p : Nat) : Nat := p / 4 * 4

/-- Store a datum at a place, and remember the word it changes: its old contents may still be executed for
`Config.prefetchDepth` instructions (20_memory R85, R104). -/
def writePlace (s : State) (p : Nat) (size : Size) (v : Word) : State :=
  { s with
    mem := s.mem.setBytes p (storeBytes v size)
    stale := ⟨wordPlace p, s.mem.word (wordPlace p), Config.prefetchDepth⟩ :: s.stale }

/-! ### The bus -/

/-- What SIZE<1:0> shows for the access of a byte, a halfword or a word (50_bus_signals R395). -/
def Size.onBus : Size → BusSize
  | .byte => .byte
  | .half => .half
  | .word => .word

/-- The datum of a store of that width, right-aligned (20_memory R85; 40_data_transfer R164). -/
def Size.datum (v : Word) : Size → Word
  | .byte => (v.extractLsb' 0 8).zeroExtend 32
  | .half => (v.extractLsb' 0 16).zeroExtend 32
  | .word => v

/-- The read of a load (50_bus_signals R395, R396). -/
def loadCycle (asi : Asi) (addr : Word) (size : Size) : BusCycle := ⟨.read, asi, addr, size.onBus, false, false⟩

/-- The write of a store: LOCK is asserted (R396). -/
def storeCycle (asi : Asi) (addr : Word) (size : Size) (v : Word) : BusCycle :=
  ⟨.write (size.datum v), asi, addr, size.onBus, true, false⟩

/-- The first or the second read of a doubleword load, LOCK asserted during the second (R395, R396; 20_memory R95;
40_data_transfer R175). -/
def pairLoadCycle (second : Bool) (asi : Asi) (addr : Word) : BusCycle := ⟨.read, asi, addr, .double, second, false⟩

/-- One write of a doubleword store (R395, R396; 20_memory R95). -/
def pairStoreCycle (asi : Asi) (addr v : Word) : BusCycle := ⟨.write v, asi, addr, .double, true, false⟩

/-- The read of an atomic load-store (R396; 20_memory R97). -/
def atomicReadCycle (asi : Asi) (addr : Word) : BusCycle := ⟨.read, asi, addr, .byte, true, true⟩

/-- The write of an atomic load-store (R396; 20_memory R97). -/
def atomicWriteCycle (asi : Asi) (addr : Word) : BusCycle := ⟨.write 0xFF, asi, addr, .byte, true, true⟩

/-- The platform's answer to the next transaction (20_memory R84, R107). After the last listed answer, memory
answers (log 5). -/
def nextAnswer (s : State) : BusAnswer := s.bus.headD .memory

/-- The state after a transaction: its answer is consumed, and the platform has seen it (20_memory R87). -/
def afterAnswer (c : BusCycle) (s : State) : State := { s with bus := s.bus.tail, busOut := s.busOut ++ [c] }

/-- Make one transaction, and go on by its answer: the state after it to `failed` on MEXC (20_memory R107), to
`cut` on RESET (70_reset_and_hazards R481), else, with the answer, to `done`. A transaction that is never
answered leads nowhere (50_bus_signals R398). -/
def transact (c : BusCycle) (s : State) (failed cut : State → Host.Outcome State Fault Refusal)
    (done : BusAnswer → State → Host.Outcome State Fault Refusal) : Host.Outcome State Fault Refusal :=
  match nextAnswer s with
  | .memory => done .memory (afterAnswer c s)
  | .device d => done (.device d) (afterAnswer c s)
  | .mexc => failed (afterAnswer c s)
  | .reset => cut (afterAnswer c s)
  | .held => .fault .heldForever

/-- What a read returns under an answer of memory or a device (20_memory R84). -/
def answerRead (a : BusAnswer) (s : State) (asi : Asi) (addr : Word) (size : Size) : Word :=
  match a, size with
  | .device d, .byte => (d.extractLsb' 0 8).zeroExtend 32
  | .device d, .half => (d.extractLsb' 0 16).zeroExtend 32
  | .device d, .word => d
  | _, size => readPlace s.mem (placeOf s asi addr) size

/-- What a write does under an answer of memory or a device, which then takes it (20_memory R85; log 37). -/
def answerWrite (a : BusAnswer) (s : State) (asi : Asi) (addr : Word) (size : Size) (v : Word) : State :=
  match a with
  | .memory => writePlace s (placeOf s asi addr) size v
  | _ => s

/-! ### The PSR and its window -/

/-- The fields an open window leaves unsettled; none when no window is open (43_state_registers R340). -/
def PsrDelay.live (d : PsrDelay) : PsrFields := if d.left = 0 then PsrFields.none else d.changed

/-- The window an instruction addresses its registers through (10_state R24). -/
def curWindow (s : State) : WindowNum := s.psr.cwp

/-- (w - 1) mod 7 (10_state R45). -/
def prevWindow (w : WindowNum) : WindowNum := w - 1

/-- (w + 1) mod 7 (10_state R45). -/
def nextWindow (w : WindowNum) : WindowNum := w + 1

/-- The address space identifier of ordinary data accesses, DASI (20_memory R82). -/
def dataAsi (s : State) : Asi := if s.psr.s then 0x0B else 0x0A

/-- The address space identifier of the next instruction fetch, IASI (20_memory R82). -/
def fetchAsi (s : State) : Asi := if s.psr.s then 0x09 else 0x08

/-! ### The r registers -/

/-- Where a register number leads: nowhere, a global, or one of the 112 windowed registers (10_state R24). -/
inductive RegHome where
  | zero
  | global (i : Fin 7)
  | windowed (i : Fin 112)
deriving DecidableEq, Repr

/-- `rw[w][n]` as a register (10_state R24): outs, locals, and ins, which are the outs of window w + 1. -/
def home (w : WindowNum) (n : RegNum) : RegHome :=
  let k := n.toNat
  if k = 0 then .zero
  else if k < 8 then .global (Fin.ofNat 7 (k - 1))
  else if k < 16 then .windowed (Fin.ofNat 112 (16 * w.val + (k - 8)))
  else if k < 24 then .windowed (Fin.ofNat 112 (16 * w.val + 8 + (k - 16)))
  else .windowed (Fin.ofNat 112 (16 * (w.val + 1) + (k - 24)))

/-- Read a register; r0 reads 0 (10_state R22). -/
def readHome (s : State) : RegHome → Word
  | .zero => 0
  | .global i => s.globals[i.val]
  | .windowed i => s.windowed[i.val]

/-- Write a register; a write to r0 is discarded (10_state R22). -/
def writeHome (s : State) (h : RegHome) (v : Word) : State :=
  match h with
  | .zero => s
  | .global i => { s with globals := s.globals.set i.val v }
  | .windowed i => { s with windowed := s.windowed.set i.val v }

/-- Read `rw[w][n]` (00_scope R8). -/
def readWin (s : State) (w : WindowNum) (n : RegNum) : Word := readHome s (home w n)

/-- Write `rw[w][n]` (00_scope R8). -/
def writeWin (s : State) (w : WindowNum) (n : RegNum) (v : Word) : State := writeHome s (home w n) v

/-- Read `r[n]` through the current window (00_scope R8). -/
def readReg (s : State) (n : RegNum) : Word := readWin s (curWindow s) n

/-! ### The end of an instruction -/

/-- One more instruction has executed (43_state_registers R340). -/
def PsrDelay.tick (d : PsrDelay) : PsrDelay :=
  if d.left ≤ 1 then PsrDelay.closed else { d with left := d.left - 1 }

/-- One more instruction has executed (43_state_registers R340). -/
def TbrDelay.tick (d : TbrDelay) : TbrDelay :=
  if d.left ≤ 1 then TbrDelay.closed else { d with left := d.left - 1 }

/-- One more instruction has executed (20_memory R104). -/
def ageStale : List StaleWord → List StaleWord
  | [] => []
  | w :: ws => if w.left ≤ 1 then ageStale ws else { w with left := w.left - 1 } :: ageStale ws

/-- An instruction ends at the given PC and nPC: every window is one instruction older, and the next free
value is a new one. -/
def retire (s : State) (pc npc : Word) : State :=
  { s with
    pc := pc
    npc := npc
    psrDelay := s.psrDelay.tick
    wimDelay := s.wimDelay - 1
    tbrDelay := s.tbrDelay.tick
    yDelay := s.yDelay - 1
    stale := ageStale s.stale
    afterJmpl := false
    free := s.free + 1 }

/-- `pc <- npc; npc <- npc + 4` (10_state R31). -/
def advance (s : State) : State := retire s s.npc (s.npc + 4)

/-- A delayed transfer: `pc <- npc; npc <- target` (10_state R31; 42_control_transfer R291). -/
def delayedTo (s : State) (target : Word) : State := retire s s.npc target

/-! ### Traps -/

/-- The traps that have a type number (60_exceptions R421). -/
inductive Trap where
  | instructionAccessException
  | illegalInstruction
  | privilegedInstruction
  | fpDisabled
  | windowOverflow
  | windowUnderflow
  | memAddressNotAligned
  | fpException
  | dataAccessException
  | tagOverflow
  | trapInstruction (tn : BitVec 7)
  | interrupt (level : BitVec 4)
deriving DecidableEq, Repr

/-- The trap type number (60_exceptions R421): 16 + L for an interrupt of level L, 128 + tn for a Ticc. -/
def trapType : Trap → BitVec 8
  | .instructionAccessException => 1
  | .illegalInstruction => 2
  | .privilegedInstruction => 3
  | .fpDisabled => 4
  | .windowOverflow => 5
  | .windowUnderflow => 6
  | .memAddressNotAligned => 7
  | .fpException => 8
  | .dataAccessException => 9
  | .tagOverflow => 10
  | .trapInstruction tn => 128 + tn.zeroExtend 8
  | .interrupt level => 16 + level.zeroExtend 8

/-- The trap base a trap jumps through: within three instructions of a WRTBR, the old or the new one
(43_state_registers R345). -/
def trapBase (s : State) : BitVec 20 :=
  if s.tbrDelay.left ≠ 0 ∧ Config.choiceOldTba s.free = true then s.tbrDelay.oldTba else s.tba

/-- Trap entry, the one sequence of every trap but reset (60_exceptions R431): traps off, S saved in PS and
set, one window down without asking WIM, PC and nPC into r17 and r18 of that window, tt written, PC at the
table entry, every delayed-write window closed. DESIGN CHOICE, log 14: neither an instruction that traps nor an
interrupt counts among the next four instructions executed of 20_memory R104. -/
def trapEntry (t : BitVec 8) (s : State) : State :=
  let w := prevWindow s.psr.cwp
  let target : Word := trapBase s ++ t ++ 0#4
  { writeWin (writeWin s w 17 s.pc) w 18 s.npc with
    psr := { s.psr with et := false, ps := s.psr.s, s := true, cwp := w }
    tt := t
    pc := target
    npc := target + 4
    psrDelay := PsrDelay.closed
    wimDelay := 0
    tbrDelay := TbrDelay.closed
    yDelay := 0
    afterJmpl := false
    free := s.free + 1 }

/-- Error mode: nothing else changes (60_exceptions R433, D16). -/
def enterError (s : State) : State := { s with mode := .error }

/-- Enter a trap, which uses S and CWP: refused while one of them is unsettled (43_state_registers R341, R342). -/
def enterTrap (t : Trap) (s : State) : Host.Outcome State Fault Refusal :=
  if s.psrDelay.live.s || s.psrDelay.live.cwp then .refused .psrUnsettled else .next (trapEntry (trapType t) s)

/-- `raise`: trap entry with traps enabled, error mode with traps disabled (60_exceptions R430); refused while ET is
unsettled (43_state_registers R341). -/
def raise (t : Trap) (s : State) : Host.Outcome State Fault Refusal :=
  if s.psrDelay.live.et then .refused .psrUnsettled
  else if s.psr.et then enterTrap t s
  else .next (enterError s)

/-- RESET is asserted: the instruction in progress is abandoned (70_reset_and_hazards R480, R481). -/
def assertReset (s : State) : State := { s with mode := .reset }

/-- What RESET leaves of an instruction that it cuts: nothing but what `s` holds of it (70_reset_and_hazards
R481). -/
def cutByReset (s : State) : Host.Outcome State Fault Refusal := .next (assertReset s)

/-- RESET is released, the reset trap: S = 1, ET = 0, PC = 0, nPC = 4, execute mode, every other register
kept, no window pending (70_reset_and_hazards R480; 10_state R61). DESIGN CHOICE, log 40: of the FPU's state, which
the spec leaves open (R61, R484), FEXC is what the input of this boundary gave, and FCC is kept unless it gave one. -/
def releaseReset (s : State) : State :=
  { s with
    psr := { s.psr with s := true, et := false }
    pc := 0
    npc := 4
    mode := .execute
    psrDelay := PsrDelay.closed
    wimDelay := 0
    tbrDelay := TbrDelay.closed
    yDelay := 0
    afterJmpl := false }

/-- Whether a move to window `w` meets its WIM bit (41_arith_logic_shift R272, R273). -/
def windowInvalid (s : State) (w : WindowNum) : Bool := s.wim.getLsbD w.val

/-- The effect of a RETT that succeeds (42_control_transfer R305): one window up, S from PS, traps on, and the
delayed transfer. The fetches that follow see the new S, so they are in the interrupted program's space (R311). -/
def returnFromTrap (target : Word) (s : State) : State :=
  { delayedTo s target with
    psr := { s.psr with cwp := nextWindow s.psr.cwp, s := s.psr.ps, et := true } }

/-- A RETT that fails with traps disabled: tt is written and the machine enters error mode
(42_control_transfer R310). -/
def failReturn (t : Trap) (s : State) : State := enterError { s with tt := trapType t }

/-! ### Writing the state registers -/

/-- The PSR that a WRPSR of `v` writes when its CWP field is `w` (43_state_registers R336). -/
def psrOfWord (v : Word) (w : WindowNum) : Psr :=
  { icc := ⟨v.getLsbD 23, v.getLsbD 22, v.getLsbD 21, v.getLsbD 20⟩
    reserved := v.extractLsb' 14 6
    ec := v.getLsbD 13
    ef := v.getLsbD 12
    pil := v.extractLsb' 8 4
    s := v.getLsbD 7
    ps := v.getLsbD 6
    et := v.getLsbD 5
    cwp := w }

/-- The PSR as a word: impl and ver are 0 (10_state R36; 43_state_registers R333). -/
def psrWord (p : Psr) : Word :=
  0#8 ++ BitVec.ofBool p.icc.n ++ BitVec.ofBool p.icc.z ++ BitVec.ofBool p.icc.v ++ BitVec.ofBool p.icc.c
    ++ p.reserved ++ BitVec.ofBool p.ec ++ BitVec.ofBool p.ef ++ p.pil ++ BitVec.ofBool p.s
    ++ BitVec.ofBool p.ps ++ BitVec.ofBool p.et ++ BitVec.ofNat 5 p.cwp.val

/-- TBR as a word (10_state R49; 43_state_registers R335). -/
def tbrWord (s : State) : Word := s.tba ++ s.tt ++ 0#4

/-- WIM as a word (10_state R47; 43_state_registers R334). -/
def wimWord (s : State) : Word := s.wim.zeroExtend 32

/-- The fields in which two PSRs differ (43_state_registers R336). -/
def psrDiff (a b : Psr) : PsrFields :=
  { icc := a.icc != b.icc
    reserved := a.reserved != b.reserved
    ec := a.ec != b.ec
    ef := a.ef != b.ef
    pil := a.pil != b.pil
    s := a.s != b.s
    ps := a.ps != b.ps
    et := a.et != b.et
    cwp := a.cwp != b.cwp }

/-- Either set's fields. -/
def PsrFields.union (a b : PsrFields) : PsrFields :=
  { icc := a.icc || b.icc
    reserved := a.reserved || b.reserved
    ec := a.ec || b.ec
    ef := a.ef || b.ef
    pil := a.pil || b.pil
    s := a.s || b.s
    ps := a.ps || b.ps
    et := a.et || b.et
    cwp := a.cwp || b.cwp }

/-- The PSR window a write of `p` opens: restarted at three, earlier changed fields kept, the old ET and PIL
those before the window's first write (43_state_registers R340). -/
def openPsrDelay (s : State) (p : Psr) : PsrDelay :=
  { left := Config.delayLength
    changed := (psrDiff s.psr p).union s.psrDelay.live
    oldEt := if s.psrDelay.left = 0 then s.psr.et else s.psrDelay.oldEt
    oldPil := if s.psrDelay.left = 0 then s.psr.pil else s.psrDelay.oldPil }

/-- A WRPSR that writes: the value is stored at once and the window opens (R336, R340). -/
def writePsr (p : Psr) (s : State) : State := { advance s with psr := p, psrDelay := openPsrDelay s p }

/-- A WRY that writes (R337, R340). -/
def writeY (v : Word) (s : State) : State := { advance s with y := v, yDelay := Config.delayLength }

/-- A WRWIM that writes; bits 31:7 of the value are ignored (R338, R340). -/
def writeWim (v : Word) (s : State) : State :=
  { advance s with wim := v.extractLsb' 0 7, wimDelay := Config.delayLength }

/-- A WRTBR that writes: only TBA, and the old one is remembered (R339, R340). -/
def writeTbr (v : Word) (s : State) : State :=
  { advance s with tba := v.extractLsb' 12 20, tbrDelay := ⟨Config.delayLength, s.tba⟩ }

end Sys2Proof.Machine
end

