-- ==== Sys2Proof/Machine/Flags.lean ====
section
/-! DEFINITION. Every flag computation (41_arith_logic_shift R222 to R224, R240, R250) and every condition
(30_encoding R136; 44_fp_and_other R368). -/

namespace Sys2Proof.Machine

/-- The carry or borrow in, as a number. -/
def carryIn (c : Bool) : Nat := if c then 1 else 0

/-- `add(a, b, cin)` (R222): the low 32 bits of the exact sum, and n, z, v, c. -/
def addFlags (a b : Word) (cin : Bool) : Word × Icc :=
  let exact := a.toNat + b.toNat + carryIn cin
  let res := BitVec.ofNat 32 exact
  (res, { n := res.msb
          z := res == 0
          v := a.msb == b.msb && res.msb != a.msb
          c := decide (2 ^ 32 ≤ exact) })

/-- `sub(a, b, cin)` (R223): the difference modulo 2^32, and n, z, v, c; c is a borrow. -/
def subFlags (a b : Word) (cin : Bool) : Word × Icc :=
  let res := a - b - BitVec.ofNat 32 (carryIn cin)
  (res, { n := res.msb
          z := res == 0
          v := a.msb != b.msb && res.msb != a.msb
          c := decide (a.toNat < b.toNat + carryIn cin) })

/-- The flags of a logical result (R224). -/
def logicIcc (res : Word) : Icc := { n := res.msb, z := res == 0, v := false, c := false }

/-- A word whose tag, bits 1:0, is not zero (R240). -/
def tagged (a : Word) : Bool := a.extractLsb' 0 2 != 0

/-- The tagged overflow condition (R240). -/
def tagOverflow (a b : Word) (v : Bool) : Bool := tagged a || tagged b || v

/-- Tagged addition (R241): the sum, and the flags with v the tagged overflow. -/
def taddFlags (a b : Word) : Word × Icc :=
  let r := addFlags a b false
  (r.1, { r.2 with v := tagOverflow a b r.2.v })

/-- Tagged subtraction (R242). -/
def tsubFlags (a b : Word) : Word × Icc :=
  let r := subFlags a b false
  (r.1, { r.2 with v := tagOverflow a b r.2.v })

/-- Step 1 of MULScc (R250): the partial product shifted right by one, with n xor v above it. -/
def mulStepShift (icc : Icc) (a : Word) : Word := BitVec.ofBool (icc.n ^^ icc.v) ++ a.extractLsb' 1 31

/-- Steps 1 to 3 of MULScc (R250): the outgoing partial product and its flags. -/
def mulStep (icc : Icc) (a b y : Word) : Word × Icc :=
  addFlags (mulStepShift icc a) (if y.getLsbD 0 then b else 0) false

/-- Step 4 of MULScc (R250): Y shifted right by one, with the low bit of the incoming partial product above. -/
def mulStepY (a y : Word) : Word := a.extractLsb' 0 1 ++ y.extractLsb' 1 31

/-- The conditions of Bicc and Ticc (30_encoding R136). -/
inductive Cond where
  | always | never | notEqual | equal | greater | lessOrEqual | greaterOrEqual | less
  | greaterUnsigned | lessOrEqualUnsigned | carryClear | carrySet | positive | negative | overflowClear
  | overflowSet
deriving DecidableEq, Repr

/-- `eval_icc` (30_encoding R136; 42_control_transfer R292). -/
def evalIcc (c : Cond) (f : Icc) : Bool :=
  match c with
  | .always => true
  | .never => false
  | .notEqual => !f.z
  | .equal => f.z
  | .greater => !(f.z || (f.n ^^ f.v))
  | .lessOrEqual => f.z || (f.n ^^ f.v)
  | .greaterOrEqual => !(f.n ^^ f.v)
  | .less => f.n ^^ f.v
  | .greaterUnsigned => !(f.c || f.z)
  | .lessOrEqualUnsigned => f.c || f.z
  | .carryClear => !f.c
  | .carrySet => f.c
  | .positive => !f.n
  | .negative => f.n
  | .overflowClear => !f.v
  | .overflowSet => f.v

/-- The conditions of FBfcc (44_fp_and_other R368; PRESUMED, log 25). -/
inductive FCond where
  | always | never | unordered | greater | unorderedOrGreater | less | unorderedOrLess | lessOrGreater
  | notEqual | equal | unorderedOrEqual | greaterOrEqual | unorderedGreaterOrEqual | lessOrEqual
  | unorderedLessOrEqual | ordered
deriving DecidableEq, Repr

/-- `fcc_test` (44_fp_and_other R368), with fcc 0 equal, 1 less, 2 greater, 3 unordered (R360). -/
def evalFcc (c : FCond) (fcc : BitVec 2) : Bool :=
  let e := fcc == 0
  let l := fcc == 1
  let g := fcc == 2
  let u := fcc == 3
  match c with
  | .always => true
  | .never => false
  | .unordered => u
  | .greater => g
  | .unorderedOrGreater => g || u
  | .less => l
  | .unorderedOrLess => l || u
  | .lessOrGreater => l || g
  | .notEqual => l || g || u
  | .equal => e
  | .unorderedOrEqual => e || u
  | .greaterOrEqual => e || g
  | .unorderedGreaterOrEqual => e || g || u
  | .lessOrEqual => e || l
  | .unorderedLessOrEqual => e || l || u
  | .ordered => e || l || g

end Sys2Proof.Machine
end

