-- ==== Sys2Proof/Machine/Uses.lean ====
section
/-! DEFINITION. Which instruction uses which state register (43_state_registers R341, R343, R344, R346), and the
refusal of an instruction that uses one within the window of a write to it (R340, D13). -/

namespace Sys2Proof.Machine

/-! ### The r registers of an instruction -/

/-- The register number of a second operand. -/
def regsOfRegImm : RegImm → List RegNum
  | .reg rs2 => [rs2]
  | .imm _ => []

/-- The register number of an alternate-space operand. -/
def regsOfAlt : AltOperand → List RegNum
  | .reg _ rs2 => [rs2]
  | .imm _ => []

/-- The register number of a floating point load's or store's operand. -/
def regsOfFp : FpOperand → List RegNum
  | .reg _ rs2 => [rs2]
  | .imm _ => []

/-- The r register numbers in the fields an instruction reads or writes, "including the implicit r15 of CALL and the rd
of a load" (R341). Numbers of the FPU's registers are none of them, and IFLUSH looks at none (44_fp_and_other R375). -/
def regFields : Instr → List RegNum
  | .ld rd rs1 o | .ldub rd rs1 o | .lduh rd rs1 o | .ldd rd rs1 o | .st rd rs1 o | .stb rd rs1 o | .sth rd rs1 o
  | .std rd rs1 o | .ldsb rd rs1 o | .ldsh rd rs1 o | .ldstub rd rs1 o | .add rd rs1 o | .addcc rd rs1 o
  | .addx rd rs1 o | .addxcc rd rs1 o | .sub rd rs1 o | .subcc rd rs1 o | .subx rd rs1 o | .subxcc rd rs1 o
  | .taddcc rd rs1 o | .tsubcc rd rs1 o | .taddcctv rd rs1 o | .tsubcctv rd rs1 o | .mulscc rd rs1 o
  | .and rd rs1 o | .andcc rd rs1 o | .andn rd rs1 o | .andncc rd rs1 o | .or rd rs1 o | .orcc rd rs1 o
  | .orn rd rs1 o | .orncc rd rs1 o | .xor rd rs1 o | .xorcc rd rs1 o | .xnor rd rs1 o | .xnorcc rd rs1 o
  | .sll rd rs1 o | .srl rd rs1 o | .sra rd rs1 o | .save rd rs1 o | .restore rd rs1 o
  | .jmpl rd rs1 o => rd :: rs1 :: regsOfRegImm o
  | .lda rd rs1 a | .lduba rd rs1 a | .lduha rd rs1 a | .ldda rd rs1 a | .sta rd rs1 a | .stba rd rs1 a
  | .stha rd rs1 a | .stda rd rs1 a | .ldsba rd rs1 a | .ldsha rd rs1 a | .ldstuba rd rs1 a => rd :: rs1 :: regsOfAlt a
  | .ldf _ rs1 a | .ldfsr _ rs1 a | .lddf _ rs1 a | .stf _ rs1 a | .stfsr _ rs1 a | .stdfq _ rs1 a
  | .stdf _ rs1 a => rs1 :: regsOfFp a
  | .ta rs1 o | .tn rs1 o | .tne rs1 o | .te rs1 o | .tg rs1 o | .tle rs1 o | .tge rs1 o | .tl rs1 o | .tgu rs1 o
  | .tleu rs1 o | .tcc rs1 o | .tcs rs1 o | .tpos rs1 o | .tneg rs1 o | .tvc rs1 o | .tvs rs1 o | .rett rs1 o
  | .wry rs1 o | .wrpsr rs1 o | .wrwim rs1 o | .wrtbr rs1 o => rs1 :: regsOfRegImm o
  | .sethi rd _ | .rdy rd | .rdpsr rd | .rdwim rd | .rdtbr rd => [rd]
  | .call _ => [15]
  | .ba _ _ | .bn _ _ | .bne _ _ | .be _ _ | .bg _ _ | .ble _ _ | .bge _ _ | .bl _ _ | .bgu _ _ | .bleu _ _
  | .bcc _ _ | .bcs _ _ | .bpos _ _ | .bneg _ _ | .bvc _ _ | .bvs _ _ | .fba _ _ | .fbn _ _ | .fbu _ _ | .fbg _ _
  | .fbug _ _ | .fbl _ _ | .fbul _ _ | .fblg _ _ | .fbne _ _ | .fbe _ _ | .fbue _ _ | .fbge _ _ | .fbuge _ _
  | .fble _ _ | .fbule _ _ | .fbo _ _ | .fmovs _ _ _ | .fnegs _ _ _ | .fabs _ _ _ | .fadds _ _ _ | .faddd _ _ _
  | .fsubs _ _ _ | .fsubd _ _ _ | .fmuls _ _ _ | .fmuld _ _ _ | .fdivs _ _ _ | .fdivd _ _ _ | .fitos _ _ _
  | .fstod _ _ _ | .fdtos _ _ _ | .fitod _ _ _ | .fstoi _ _ _ | .fdtoi _ _ _ | .fcmps _ _ _ | .fcmpd _ _ _
  | .fcmpes _ _ _ | .fcmped _ _ _ | .fpop1 _ _ _ _ | .fpop2 _ _ _ _ | .unimp _ | .iflush _ _ => []

/-- A register number that CWP maps: 8 to 31 (10_state R24). -/
def windowedNumber (n : RegNum) : Bool := decide (8 ≤ n.toNat)

/-! ### The uses of the PSR's fields, row by row of R341 -/

/-- RDPSR, which uses every field (R341, R346). -/
def readsPsr : Instr → Bool
  | .rdpsr _ => true
  | _ => false

/-- The uses of icc. -/
def usesIcc : Instr → Bool
  | .ba _ _ | .bn _ _ | .bne _ _ | .be _ _ | .bg _ _ | .ble _ _ | .bge _ _ | .bl _ _ | .bgu _ _ | .bleu _ _
  | .bcc _ _ | .bcs _ _ | .bpos _ _ | .bneg _ _ | .bvc _ _ | .bvs _ _ | .ta _ _ | .tn _ _ | .tne _ _ | .te _ _
  | .tg _ _ | .tle _ _ | .tge _ _ | .tl _ _ | .tgu _ _ | .tleu _ _ | .tcc _ _ | .tcs _ _ | .tpos _ _ | .tneg _ _
  | .tvc _ _ | .tvs _ _ | .addx _ _ _ | .addxcc _ _ _ | .subx _ _ _ | .subxcc _ _ _ | .mulscc _ _ _ => true
  | i => readsPsr i

/-- The uses of EF: every floating point instruction. -/
def usesEf : Instr → Bool
  | .fmovs _ _ _ | .fnegs _ _ _ | .fabs _ _ _ | .fadds _ _ _ | .faddd _ _ _ | .fsubs _ _ _ | .fsubd _ _ _
  | .fmuls _ _ _ | .fmuld _ _ _ | .fdivs _ _ _ | .fdivd _ _ _ | .fitos _ _ _ | .fstod _ _ _ | .fdtos _ _ _
  | .fitod _ _ _ | .fstoi _ _ _ | .fdtoi _ _ _ | .fcmps _ _ _ | .fcmpd _ _ _ | .fcmpes _ _ _ | .fcmped _ _ _
  | .fpop1 _ _ _ _ | .fpop2 _ _ _ _ | .fba _ _ | .fbn _ _ | .fbu _ _ | .fbg _ _ | .fbug _ _ | .fbl _ _ | .fbul _ _
  | .fblg _ _ | .fbne _ _ | .fbe _ _ | .fbue _ _ | .fbge _ _ | .fbuge _ _ | .fble _ _ | .fbule _ _ | .fbo _ _
  | .ldf _ _ _ | .ldfsr _ _ _ | .lddf _ _ _ | .stf _ _ _ | .stfsr _ _ _ | .stdfq _ _ _ | .stdf _ _ _ => true
  | i => readsPsr i

/-- The uses of S: every load and store, every privileged instruction, RETT. Fetches and trap entry use it too
(`fetchAndRun`, `enterTrap`). -/
def usesS : Instr → Bool
  | .ld _ _ _ | .ldub _ _ _ | .lduh _ _ _ | .ldd _ _ _ | .st _ _ _ | .stb _ _ _ | .sth _ _ _ | .std _ _ _
  | .ldsb _ _ _ | .ldsh _ _ _ | .ldstub _ _ _ | .lda _ _ _ | .lduba _ _ _ | .lduha _ _ _ | .ldda _ _ _ | .sta _ _ _
  | .stba _ _ _ | .stha _ _ _ | .stda _ _ _ | .ldsba _ _ _ | .ldsha _ _ _ | .ldstuba _ _ _ | .ldf _ _ _
  | .ldfsr _ _ _ | .lddf _ _ _ | .stf _ _ _ | .stfsr _ _ _ | .stdfq _ _ _ | .stdf _ _ _ | .rdpsr _ | .rdwim _
  | .rdtbr _ | .wrpsr _ _ | .wrwim _ _ | .wrtbr _ _ | .rett _ _ => true
  | _ => false

/-- The uses of PS: RETT. -/
def usesPs : Instr → Bool
  | .rett _ _ => true
  | i => readsPsr i

/-- The uses of ET: RETT. Synchronous traps use it too (`raise`). -/
def usesEt : Instr → Bool
  | .rett _ _ => true
  | i => readsPsr i

/-- The uses of CWP: a windowed register number, SAVE, RESTORE and RETT. Trap entry uses it too (`enterTrap`). -/
def usesCwp (i : Instr) : Bool :=
  match i with
  | .save _ _ _ | .restore _ _ _ | .rett _ _ => true
  | i => (regFields i).any windowedNumber || readsPsr i

/-- Every PSR field an instruction uses (R341). -/
def usesPsr (i : Instr) : PsrFields :=
  { icc := usesIcc i
    reserved := readsPsr i
    ec := readsPsr i
    ef := usesEf i
    pil := readsPsr i
    s := usesS i
    ps := usesPs i
    et := usesEt i
    cwp := usesCwp i }

/-! ### The uses of WIM, Y and TBR -/

/-- SAVE, RESTORE and RETT (R343), RDWIM (R346). -/
def usesWim : Instr → Bool
  | .save _ _ _ | .restore _ _ _ | .rett _ _ | .rdwim _ => true
  | _ => false

/-- MULScc and RDY (R344, R346). -/
def usesY : Instr → Bool
  | .mulscc _ _ _ | .rdy _ => true
  | _ => false

/-- RDTBR (R346). Traps use it too, with the old or the new value (`trapBase`, R345). -/
def usesTbr : Instr → Bool
  | .rdtbr _ => true
  | _ => false

/-! ### The refusal -/

/-- Some field is in both sets. -/
def PsrFields.meets (a b : PsrFields) : Bool :=
  a.icc && b.icc || a.reserved && b.reserved || a.ec && b.ec || a.ef && b.ef || a.pil && b.pil || a.s && b.s
    || a.ps && b.ps || a.et && b.et || a.cwp && b.cwp

/-- Why an instruction is refused, if it uses a register within the window of a write to it (R340, D13). -/
def unsettled (i : Instr) (s : State) : Option Refusal :=
  if (usesPsr i).meets s.psrDelay.live then some .psrUnsettled
  else if usesWim i && s.wimDelay != 0 then some .wimUnsettled
  else if usesY i && s.yDelay != 0 then some .yUnsettled
  else if usesTbr i && s.tbrDelay.left != 0 then some .tbrUnsettled
  else none

/-- An instruction that uses what is unsettled is refused, any other does `act` (R340, D13). DESIGN CHOICE, log 8: the
refusal goes by the instruction, as R341 to R346 list them, and comes before every check of its own. -/
def unlessUnsettled (i : Instr) (s : State) (act : Host.Outcome State Fault Refusal) :
    Host.Outcome State Fault Refusal :=
  match unsettled i s with
  | some r => .refused r
  | none => act

end Sys2Proof.Machine
end

