-- ==== Sys2Proof/Machine/Operands.lean ====
section
/-! DEFINITION. The operand forms (30_encoding R126 to R128; 40_data_transfer R162; 41_arith_logic_shift R265). -/

namespace Sys2Proof.Machine

/-- `sext_13` (00_scope R7). -/
def sext13 (v : BitVec 13) : Word := v.signExtend 32

/-- `op2`, the second operand (30_encoding R127). -/
def opValue (s : State) : RegImm → Word
  | .reg rs2 => readReg s rs2
  | .imm simm13 => sext13 simm13

/-- `ea = r[rs1] + op2` (30_encoding R128): the effective address, the jump target, the trap number sum. -/
def effAddr (s : State) (rs1 : RegNum) (o : RegImm) : Word := readReg s rs1 + opValue s o

/-- The second operand of a floating point load or store: bits 12:5 are ignored (30_encoding R129). -/
def fpOpValue (s : State) : FpOperand → Word
  | .reg _ rs2 => readReg s rs2
  | .imm simm13 => sext13 simm13

/-- `ea` of a floating point load or store (44_fp_and_other R365). -/
def fpEffAddr (s : State) (rs1 : RegNum) (a : FpOperand) : Word := readReg s rs1 + fpOpValue s a

/-- The value a write state register instruction writes, `r[rs1] xor op2` (43_state_registers section 3). -/
def xorValue (s : State) (rs1 : RegNum) (o : RegImm) : Word := readReg s rs1 ^^^ opValue s o

/-- The shift count, the low five bits of op2 (41_arith_logic_shift R265). -/
def shiftCount (v : Word) : Nat := (v.extractLsb' 0 5).toNat

/-- The trap number, the low seven bits of the sum (42_control_transfer R302). -/
def trapNumber (sum : Word) : BitVec 7 := sum.extractLsb' 0 7

/-- `4 * sext_22(disp22)` (30_encoding R126). -/
def branchOffset (disp22 : BitVec 22) : Word := (disp22 ++ 0#2).signExtend 32

/-- `disp30 ++ 00` (30_encoding R126). -/
def callOffset (disp30 : BitVec 30) : Word := disp30 ++ 0#2

/-- The address is a multiple of the size, a power of two (20_memory R91). -/
def alignedTo (bytes : Nat) (a : Word) : Bool := a.toNat % bytes == 0

/-- `hi ++ 0^10` (41_arith_logic_shift R275). -/
def sethiValue (imm22 : BitVec 22) : Word := imm22 ++ 0#10

/-- `sext_8` of the low byte (40_data_transfer R163). -/
def signByte (v : Word) : Word := (v.extractLsb' 0 8).signExtend 32

/-- `sext_16` of the low halfword (40_data_transfer R163). -/
def signHalf (v : Word) : Word := (v.extractLsb' 0 16).signExtend 32

end Sys2Proof.Machine
end

