-- ==== Sys2Proof/Machine/Arith.lean ====
section
/-! DEFINITION. The arithmetic, logical and shift instructions, SAVE, RESTORE and SETHI (41_arith_logic_shift). -/

namespace Sys2Proof.Machine

/-- An instruction that only writes `r[rd]` (R220). -/
def aluWrite (rd : RegNum) (v : Word) (s : State) : Host.Outcome State Fault Refusal :=
  .next (writeWin (advance s) (curWindow s) rd v)

/-- An instruction that writes `r[rd]` and icc (R220, R222 to R224). -/
def aluWriteCc (rd : RegNum) (r : Word × Icc) (s : State) : Host.Outcome State Fault Refusal :=
  .next { writeWin (advance s) (curWindow s) rd r.1 with psr := { s.psr with icc := r.2 } }

/-- A logical instruction that writes icc (R224). -/
def logicWriteCc (rd : RegNum) (res : Word) (s : State) : Host.Outcome State Fault Refusal :=
  aluWriteCc rd (res, logicIcc res) s

/-- PSR.c as the instruction reads it (R228, R232). -/
def seenCarry (s : State) : Bool := s.psr.icc.c

/-- ADD (R226). -/
def execAdd (rd rs1 : RegNum) (o : RegImm) (s : State) : Host.Outcome State Fault Refusal :=
  unlessUnsettled (.add rd rs1 o) s (aluWrite rd (readReg s rs1 + opValue s o) s)

/-- ADDcc (R227). -/
def execAddcc (rd rs1 : RegNum) (o : RegImm) (s : State) : Host.Outcome State Fault Refusal :=
  unlessUnsettled (.addcc rd rs1 o) s (aluWriteCc rd (addFlags (readReg s rs1) (opValue s o) false) s)

/-- ADDX (R228). -/
def execAddx (rd rs1 : RegNum) (o : RegImm) (s : State) : Host.Outcome State Fault Refusal :=
  unlessUnsettled (.addx rd rs1 o) s (aluWrite rd (addFlags (readReg s rs1) (opValue s o) (seenCarry s)).1 s)

/-- ADDXcc (R229). -/
def execAddxcc (rd rs1 : RegNum) (o : RegImm) (s : State) : Host.Outcome State Fault Refusal :=
  unlessUnsettled (.addxcc rd rs1 o) s (aluWriteCc rd (addFlags (readReg s rs1) (opValue s o) (seenCarry s)) s)

/-- SUB (R230). -/
def execSub (rd rs1 : RegNum) (o : RegImm) (s : State) : Host.Outcome State Fault Refusal :=
  unlessUnsettled (.sub rd rs1 o) s (aluWrite rd (readReg s rs1 - opValue s o) s)

/-- SUBcc (R231). -/
def execSubcc (rd rs1 : RegNum) (o : RegImm) (s : State) : Host.Outcome State Fault Refusal :=
  unlessUnsettled (.subcc rd rs1 o) s (aluWriteCc rd (subFlags (readReg s rs1) (opValue s o) false) s)

/-- SUBX (R232). -/
def execSubx (rd rs1 : RegNum) (o : RegImm) (s : State) : Host.Outcome State Fault Refusal :=
  unlessUnsettled (.subx rd rs1 o) s (aluWrite rd (subFlags (readReg s rs1) (opValue s o) (seenCarry s)).1 s)

/-- SUBXcc (R233). -/
def execSubxcc (rd rs1 : RegNum) (o : RegImm) (s : State) : Host.Outcome State Fault Refusal :=
  unlessUnsettled (.subxcc rd rs1 o) s (aluWriteCc rd (subFlags (readReg s rs1) (opValue s o) (seenCarry s)) s)

/-- TADDcc (R241). -/
def execTaddcc (rd rs1 : RegNum) (o : RegImm) (s : State) : Host.Outcome State Fault Refusal :=
  unlessUnsettled (.taddcc rd rs1 o) s (aluWriteCc rd (taddFlags (readReg s rs1) (opValue s o)) s)

/-- TSUBcc (R242). -/
def execTsubcc (rd rs1 : RegNum) (o : RegImm) (s : State) : Host.Outcome State Fault Refusal :=
  unlessUnsettled (.tsubcc rd rs1 o) s (aluWriteCc rd (tsubFlags (readReg s rs1) (opValue s o)) s)

/-- A TV form: tag_overflow instead of the write when v would be set (R243, R244). -/
def taggedTrap (rd : RegNum) (r : Word × Icc) (s : State) : Host.Outcome State Fault Refusal :=
  if r.2.v then raise .tagOverflow s else aluWriteCc rd r s

/-- TADDccTV (R243). -/
def execTaddcctv (rd rs1 : RegNum) (o : RegImm) (s : State) : Host.Outcome State Fault Refusal :=
  unlessUnsettled (.taddcctv rd rs1 o) s (taggedTrap rd (taddFlags (readReg s rs1) (opValue s o)) s)

/-- TSUBccTV (R244). -/
def execTsubcctv (rd rs1 : RegNum) (o : RegImm) (s : State) : Host.Outcome State Fault Refusal :=
  unlessUnsettled (.tsubcctv rd rs1 o) s (taggedTrap rd (tsubFlags (readReg s rs1) (opValue s o)) s)

/-- The state after a MULScc with multiplier `y` (R250). -/
def mulsccState (rd rs1 : RegNum) (o : RegImm) (y : Word) (s : State) : State :=
  let a := readReg s rs1
  let r := mulStep s.psr.icc a (opValue s o) y
  { writeWin (advance s) (curWindow s) rd r.1 with
    psr := { s.psr with icc := r.2 }
    y := mulStepY a y }

/-- MULScc (R250); refused within three instructions of a WRY (43_state_registers R344). -/
def execMulscc (rd rs1 : RegNum) (o : RegImm) (s : State) : Host.Outcome State Fault Refusal :=
  unlessUnsettled (.mulscc rd rs1 o) s (.next (mulsccState rd rs1 o s.y s))

/-- AND (R252). -/
def execAnd (rd rs1 : RegNum) (o : RegImm) (s : State) : Host.Outcome State Fault Refusal :=
  unlessUnsettled (.and rd rs1 o) s (aluWrite rd (readReg s rs1 &&& opValue s o) s)

/-- ANDcc (R253). -/
def execAndcc (rd rs1 : RegNum) (o : RegImm) (s : State) : Host.Outcome State Fault Refusal :=
  unlessUnsettled (.andcc rd rs1 o) s (logicWriteCc rd (readReg s rs1 &&& opValue s o) s)

/-- ANDN (R254). -/
def execAndn (rd rs1 : RegNum) (o : RegImm) (s : State) : Host.Outcome State Fault Refusal :=
  unlessUnsettled (.andn rd rs1 o) s (aluWrite rd (readReg s rs1 &&& ~~~(opValue s o)) s)

/-- ANDNcc (R255). -/
def execAndncc (rd rs1 : RegNum) (o : RegImm) (s : State) : Host.Outcome State Fault Refusal :=
  unlessUnsettled (.andncc rd rs1 o) s (logicWriteCc rd (readReg s rs1 &&& ~~~(opValue s o)) s)

/-- OR (R256). -/
def execOr (rd rs1 : RegNum) (o : RegImm) (s : State) : Host.Outcome State Fault Refusal :=
  unlessUnsettled (.or rd rs1 o) s (aluWrite rd (readReg s rs1 ||| opValue s o) s)

/-- ORcc (R257). -/
def execOrcc (rd rs1 : RegNum) (o : RegImm) (s : State) : Host.Outcome State Fault Refusal :=
  unlessUnsettled (.orcc rd rs1 o) s (logicWriteCc rd (readReg s rs1 ||| opValue s o) s)

/-- ORN (R258). -/
def execOrn (rd rs1 : RegNum) (o : RegImm) (s : State) : Host.Outcome State Fault Refusal :=
  unlessUnsettled (.orn rd rs1 o) s (aluWrite rd (readReg s rs1 ||| ~~~(opValue s o)) s)

/-- ORNcc (R259). -/
def execOrncc (rd rs1 : RegNum) (o : RegImm) (s : State) : Host.Outcome State Fault Refusal :=
  unlessUnsettled (.orncc rd rs1 o) s (logicWriteCc rd (readReg s rs1 ||| ~~~(opValue s o)) s)

/-- XOR (R260). -/
def execXor (rd rs1 : RegNum) (o : RegImm) (s : State) : Host.Outcome State Fault Refusal :=
  unlessUnsettled (.xor rd rs1 o) s (aluWrite rd (readReg s rs1 ^^^ opValue s o) s)

/-- XORcc (R261). -/
def execXorcc (rd rs1 : RegNum) (o : RegImm) (s : State) : Host.Outcome State Fault Refusal :=
  unlessUnsettled (.xorcc rd rs1 o) s (logicWriteCc rd (readReg s rs1 ^^^ opValue s o) s)

/-- XNOR (R262). -/
def execXnor (rd rs1 : RegNum) (o : RegImm) (s : State) : Host.Outcome State Fault Refusal :=
  unlessUnsettled (.xnor rd rs1 o) s (aluWrite rd (~~~(readReg s rs1 ^^^ opValue s o)) s)

/-- XNORcc (R263). -/
def execXnorcc (rd rs1 : RegNum) (o : RegImm) (s : State) : Host.Outcome State Fault Refusal :=
  unlessUnsettled (.xnorcc rd rs1 o) s (logicWriteCc rd (~~~(readReg s rs1 ^^^ opValue s o)) s)

/-- SLL (R266). -/
def execSll (rd rs1 : RegNum) (o : RegImm) (s : State) : Host.Outcome State Fault Refusal :=
  unlessUnsettled (.sll rd rs1 o) s (aluWrite rd (readReg s rs1 <<< shiftCount (opValue s o)) s)

/-- SRL (R267). -/
def execSrl (rd rs1 : RegNum) (o : RegImm) (s : State) : Host.Outcome State Fault Refusal :=
  unlessUnsettled (.srl rd rs1 o) s (aluWrite rd (readReg s rs1 >>> shiftCount (opValue s o)) s)

/-- SRA (R268). -/
def execSra (rd rs1 : RegNum) (o : RegImm) (s : State) : Host.Outcome State Fault Refusal :=
  unlessUnsettled (.sra rd rs1 o) s (aluWrite rd ((readReg s rs1).sshiftRight (shiftCount (opValue s o))) s)

/-- The move of SAVE and RESTORE to window `w` (R270): the sum of operands read through the old window goes
to `r[rd]` of the new one. -/
def moveWindow (w : WindowNum) (rd rs1 : RegNum) (o : RegImm) (s : State) : State :=
  { writeWin (advance s) w rd (readReg s rs1 + opValue s o) with psr := { s.psr with cwp := w } }

/-- SAVE (R272). -/
def execSave (rd rs1 : RegNum) (o : RegImm) (s : State) : Host.Outcome State Fault Refusal :=
  unlessUnsettled (.save rd rs1 o) s <|
    let w := prevWindow (curWindow s)
    if windowInvalid s w then raise .windowOverflow s else .next (moveWindow w rd rs1 o s)

/-- RESTORE (R273). -/
def execRestore (rd rs1 : RegNum) (o : RegImm) (s : State) : Host.Outcome State Fault Refusal :=
  unlessUnsettled (.restore rd rs1 o) s <|
    let w := nextWindow (curWindow s)
    if windowInvalid s w then raise .windowUnderflow s else .next (moveWindow w rd rs1 o s)

/-- SETHI (R275). -/
def execSethi (rd : RegNum) (imm22 : BitVec 22) (s : State) : Host.Outcome State Fault Refusal :=
  unlessUnsettled (.sethi rd imm22) s (aluWrite rd (sethiValue imm22) s)

end Sys2Proof.Machine
end

