-- ==== Sys2Proof/Machine/Control.lean ====
section
/-! DEFINITION. The control transfer instructions (42_control_transfer). -/

namespace Sys2Proof.Machine

/-- The PC and nPC after a branch (R293, R294). An always-branch with a = 1 annuls its delay instruction
although taken; an untaken branch annuls it when a = 1. -/
def branchTo (always taken a : Bool) (target : Word) (s : State) : State :=
  if always then
    if a then retire s target (target + 4) else delayedTo s target
  else if taken then delayedTo s target
  else if a then retire s (s.npc + 4) (s.npc + 8)
  else advance s

/-- The target of a Bicc or FBfcc: relative to the branch itself (R290, R294). -/
def branchTarget (s : State) (disp22 : BitVec 22) : Word := s.pc + branchOffset disp22

/-- Bicc (R294). -/
def bicc (c : Cond) (a : Bool) (disp22 : BitVec 22) (s : State) : Host.Outcome State Fault Refusal :=
  .next (branchTo (c == .always) (evalIcc c s.psr.icc) a (branchTarget s disp22) s)

/-- Ticc (R302): when the condition holds, the trap 128 + the low seven bits of the sum, with no delay
instruction; else nothing but the PC's advance. -/
def ticc (c : Cond) (rs1 : RegNum) (o : RegImm) (s : State) : Host.Outcome State Fault Refusal :=
  if evalIcc c s.psr.icc then raise (.trapInstruction (trapNumber (effAddr s rs1 o))) s
  else .next (advance s)

/-- BA (R294, R295). -/
def execBa (a : Bool) (disp22 : BitVec 22) (s : State) : Host.Outcome State Fault Refusal :=
  unlessUnsettled (.ba a disp22) s (bicc .always a disp22 s)

/-- BN (R294, R295). -/
def execBn (a : Bool) (disp22 : BitVec 22) (s : State) : Host.Outcome State Fault Refusal :=
  unlessUnsettled (.bn a disp22) s (bicc .never a disp22 s)

/-- BNE (R294, R295). -/
def execBne (a : Bool) (disp22 : BitVec 22) (s : State) : Host.Outcome State Fault Refusal :=
  unlessUnsettled (.bne a disp22) s (bicc .notEqual a disp22 s)

/-- BE (R294, R295). -/
def execBe (a : Bool) (disp22 : BitVec 22) (s : State) : Host.Outcome State Fault Refusal :=
  unlessUnsettled (.be a disp22) s (bicc .equal a disp22 s)

/-- BG (R294, R295). -/
def execBg (a : Bool) (disp22 : BitVec 22) (s : State) : Host.Outcome State Fault Refusal :=
  unlessUnsettled (.bg a disp22) s (bicc .greater a disp22 s)

/-- BLE (R294, R295). -/
def execBle (a : Bool) (disp22 : BitVec 22) (s : State) : Host.Outcome State Fault Refusal :=
  unlessUnsettled (.ble a disp22) s (bicc .lessOrEqual a disp22 s)

/-- BGE (R294, R295). -/
def execBge (a : Bool) (disp22 : BitVec 22) (s : State) : Host.Outcome State Fault Refusal :=
  unlessUnsettled (.bge a disp22) s (bicc .greaterOrEqual a disp22 s)

/-- BL (R294, R295). -/
def execBl (a : Bool) (disp22 : BitVec 22) (s : State) : Host.Outcome State Fault Refusal :=
  unlessUnsettled (.bl a disp22) s (bicc .less a disp22 s)

/-- BGU (R294, R295). -/
def execBgu (a : Bool) (disp22 : BitVec 22) (s : State) : Host.Outcome State Fault Refusal :=
  unlessUnsettled (.bgu a disp22) s (bicc .greaterUnsigned a disp22 s)

/-- BLEU (R294, R295). -/
def execBleu (a : Bool) (disp22 : BitVec 22) (s : State) : Host.Outcome State Fault Refusal :=
  unlessUnsettled (.bleu a disp22) s (bicc .lessOrEqualUnsigned a disp22 s)

/-- BCC (R294, R295). -/
def execBcc (a : Bool) (disp22 : BitVec 22) (s : State) : Host.Outcome State Fault Refusal :=
  unlessUnsettled (.bcc a disp22) s (bicc .carryClear a disp22 s)

/-- BCS (R294, R295). -/
def execBcs (a : Bool) (disp22 : BitVec 22) (s : State) : Host.Outcome State Fault Refusal :=
  unlessUnsettled (.bcs a disp22) s (bicc .carrySet a disp22 s)

/-- BPOS (R294, R295). -/
def execBpos (a : Bool) (disp22 : BitVec 22) (s : State) : Host.Outcome State Fault Refusal :=
  unlessUnsettled (.bpos a disp22) s (bicc .positive a disp22 s)

/-- BNEG (R294, R295). -/
def execBneg (a : Bool) (disp22 : BitVec 22) (s : State) : Host.Outcome State Fault Refusal :=
  unlessUnsettled (.bneg a disp22) s (bicc .negative a disp22 s)

/-- BVC (R294, R295). -/
def execBvc (a : Bool) (disp22 : BitVec 22) (s : State) : Host.Outcome State Fault Refusal :=
  unlessUnsettled (.bvc a disp22) s (bicc .overflowClear a disp22 s)

/-- BVS (R294, R295). -/
def execBvs (a : Bool) (disp22 : BitVec 22) (s : State) : Host.Outcome State Fault Refusal :=
  unlessUnsettled (.bvs a disp22) s (bicc .overflowSet a disp22 s)

/-- CALL (R296). -/
def execCall (disp30 : BitVec 30) (s : State) : Host.Outcome State Fault Refusal :=
  unlessUnsettled (.call disp30) s (.next (writeWin (delayedTo s (s.pc + callOffset disp30)) (curWindow s) 15 s.pc))

/-- JMPL (R300): the alignment check is the JMPL's own. -/
def execJmpl (rd rs1 : RegNum) (o : RegImm) (s : State) : Host.Outcome State Fault Refusal :=
  unlessUnsettled (.jmpl rd rs1 o) s <|
    let target := effAddr s rs1 o
    if alignedTo 4 target then
      .next { writeWin (delayedTo s target) (curWindow s) rd s.pc with afterJmpl := true }
    else raise .memAddressNotAligned s

/-- RETT (R305, R308 to R311): with ET = 1 it is illegal in either mode; with ET = 0 a failed check is error
mode with the code of the first that failed. One that fails no check returns after a JMPL and is refused after any other
instruction (R311, D25; DESIGN CHOICE, log 13: the checks come first). -/
def execRett (rs1 : RegNum) (o : RegImm) (s : State) : Host.Outcome State Fault Refusal :=
  unlessUnsettled (.rett rs1 o) s <|
    let target := effAddr s rs1 o
    if s.psr.et then raise .illegalInstruction s
    else if !s.psr.s then .next (failReturn .privilegedInstruction s)
    else if windowInvalid s (nextWindow (curWindow s)) then .next (failReturn .windowUnderflow s)
    else if !alignedTo 4 target then .next (failReturn .memAddressNotAligned s)
    else if s.afterJmpl then .next (returnFromTrap target s)
    else .refused .returnWithoutJmpl

/-- TA (R302, R303). -/
def execTa (rs1 : RegNum) (o : RegImm) (s : State) : Host.Outcome State Fault Refusal :=
  unlessUnsettled (.ta rs1 o) s (ticc .always rs1 o s)

/-- TN (R302, R303). -/
def execTn (rs1 : RegNum) (o : RegImm) (s : State) : Host.Outcome State Fault Refusal :=
  unlessUnsettled (.tn rs1 o) s (ticc .never rs1 o s)

/-- TNE (R302, R303). -/
def execTne (rs1 : RegNum) (o : RegImm) (s : State) : Host.Outcome State Fault Refusal :=
  unlessUnsettled (.tne rs1 o) s (ticc .notEqual rs1 o s)

/-- TE (R302, R303). -/
def execTe (rs1 : RegNum) (o : RegImm) (s : State) : Host.Outcome State Fault Refusal :=
  unlessUnsettled (.te rs1 o) s (ticc .equal rs1 o s)

/-- TG (R302, R303). -/
def execTg (rs1 : RegNum) (o : RegImm) (s : State) : Host.Outcome State Fault Refusal :=
  unlessUnsettled (.tg rs1 o) s (ticc .greater rs1 o s)

/-- TLE (R302, R303). -/
def execTle (rs1 : RegNum) (o : RegImm) (s : State) : Host.Outcome State Fault Refusal :=
  unlessUnsettled (.tle rs1 o) s (ticc .lessOrEqual rs1 o s)

/-- TGE (R302, R303). -/
def execTge (rs1 : RegNum) (o : RegImm) (s : State) : Host.Outcome State Fault Refusal :=
  unlessUnsettled (.tge rs1 o) s (ticc .greaterOrEqual rs1 o s)

/-- TL (R302, R303). -/
def execTl (rs1 : RegNum) (o : RegImm) (s : State) : Host.Outcome State Fault Refusal :=
  unlessUnsettled (.tl rs1 o) s (ticc .less rs1 o s)

/-- TGU (R302, R303). -/
def execTgu (rs1 : RegNum) (o : RegImm) (s : State) : Host.Outcome State Fault Refusal :=
  unlessUnsettled (.tgu rs1 o) s (ticc .greaterUnsigned rs1 o s)

/-- TLEU (R302, R303). -/
def execTleu (rs1 : RegNum) (o : RegImm) (s : State) : Host.Outcome State Fault Refusal :=
  unlessUnsettled (.tleu rs1 o) s (ticc .lessOrEqualUnsigned rs1 o s)

/-- TCC (R302, R303). -/
def execTcc (rs1 : RegNum) (o : RegImm) (s : State) : Host.Outcome State Fault Refusal :=
  unlessUnsettled (.tcc rs1 o) s (ticc .carryClear rs1 o s)

/-- TCS (R302, R303). -/
def execTcs (rs1 : RegNum) (o : RegImm) (s : State) : Host.Outcome State Fault Refusal :=
  unlessUnsettled (.tcs rs1 o) s (ticc .carrySet rs1 o s)

/-- TPOS (R302, R303). -/
def execTpos (rs1 : RegNum) (o : RegImm) (s : State) : Host.Outcome State Fault Refusal :=
  unlessUnsettled (.tpos rs1 o) s (ticc .positive rs1 o s)

/-- TNEG (R302, R303). -/
def execTneg (rs1 : RegNum) (o : RegImm) (s : State) : Host.Outcome State Fault Refusal :=
  unlessUnsettled (.tneg rs1 o) s (ticc .negative rs1 o s)

/-- TVC (R302, R303). -/
def execTvc (rs1 : RegNum) (o : RegImm) (s : State) : Host.Outcome State Fault Refusal :=
  unlessUnsettled (.tvc rs1 o) s (ticc .overflowClear rs1 o s)

/-- TVS (R302, R303). -/
def execTvs (rs1 : RegNum) (o : RegImm) (s : State) : Host.Outcome State Fault Refusal :=
  unlessUnsettled (.tvs rs1 o) s (ticc .overflowSet rs1 o s)

end Sys2Proof.Machine
end

