-- ==== Sys2Proof/Machine/Transfer.lean ====
section
/-! DEFINITION. The integer loads and stores and the atomic load-store (40_data_transfer). The checks stand in the
order of R161; a trap before the first access leaves everything as it was. -/

namespace Sys2Proof.Machine

/-- Load a datum and write it, extended, to `r[rd]` (R170 to R174). -/
def loadReg (size : Size) (ext : Word → Word) (asi : Asi) (ea : Word) (rd : RegNum) (s : State) :
    Host.Outcome State Fault Refusal :=
  if alignedTo size.bytes ea then
    transact (loadCycle asi ea size) s (raise .dataAccessException) cutByReset fun a s1 =>
      .next (writeWin (advance s1) (curWindow s) rd (ext (answerRead a s1 asi ea size)))
  else raise .memAddressNotAligned s

/-- Store the low-order bits of `r[rd]` (R182 to R184; R164). -/
def storeReg (size : Size) (asi : Asi) (ea : Word) (rd : RegNum) (s : State) :
    Host.Outcome State Fault Refusal :=
  if alignedTo size.bytes ea then
    transact (storeCycle asi ea size (readReg s rd)) s (raise .dataAccessException) cutByReset fun a s1 =>
      .next (answerWrite a (advance s1) asi ea size (readReg s rd))
  else raise .memAddressNotAligned s

/-- What of a first access stays when the second fails: all of it, or nothing (R167; 20_memory R108: "a model
allows both"; log 15). -/
def partially (s : State) (done notDone : State) : State :=
  if Config.choicePartial s.free then done else notDone

/-- Load the pair `r[rd]`, `r[rd + 1]` from `ea` and `ea + 4` (R175). RESET on the second access leaves the
instruction not started: 70_reset_and_hazards R481 gives partial states to stores and LDSTUB only. -/
def loadPair (asi : Asi) (ea : Word) (rd : RegNum) (s : State) : Host.Outcome State Fault Refusal :=
  if alignedTo 8 ea then
    transact (pairLoadCycle false asi ea) s (raise .dataAccessException) cutByReset fun a s1 =>
      let w := curWindow s
      let hi := answerRead a s1 asi ea .word
      transact (pairLoadCycle true asi (ea + 4)) s1
        (fun s2 => raise .dataAccessException (partially s (writeWin s2 w rd hi) s2)) cutByReset
        fun b s2 =>
          .next (writeWin (writeWin (advance s2) w rd hi) w (rd + 1) (answerRead b s2 asi (ea + 4) .word))
  else raise .memAddressNotAligned s

/-- Store two words at `ea` and `ea + 4`, the first first (R185; 20_memory R95, R96). -/
def storePair (asi : Asi) (ea hi lo : Word) (s : State) : Host.Outcome State Fault Refusal :=
  if alignedTo 8 ea then
    transact (pairStoreCycle asi ea hi) s (raise .dataAccessException) cutByReset fun a s1 =>
      let half (s2 : State) : State := partially s (answerWrite a s2 asi ea .word hi) s2
      transact (pairStoreCycle asi (ea + 4) lo) s1 (fun s2 => raise .dataAccessException (half s2))
        (fun s2 => cutByReset (half s2))
        fun b s2 =>
          .next (answerWrite b (answerWrite a (advance s2) asi ea .word hi) asi (ea + 4) .word lo)
  else raise .memAddressNotAligned s

/-- Read a byte, set it to all ones, and write it zero-extended to `r[rd]` (R190). A trap of the write leaves
memory unchanged, and `r[rd]` old or loaded. -/
def loadStoreByte (asi : Asi) (ea : Word) (rd : RegNum) (s : State) : Host.Outcome State Fault Refusal :=
  transact (atomicReadCycle asi ea) s (raise .dataAccessException) cutByReset fun a s1 =>
    let w := curWindow s
    let b := answerRead a s1 asi ea .byte
    let half (s2 : State) : State := partially s (writeWin s2 w rd b) s2
    transact (atomicWriteCycle asi ea) s1 (fun s2 => raise .dataAccessException (half s2))
      (fun s2 => cutByReset (half s2))
      fun c s2 => .next (answerWrite c (writeWin (advance s2) w rd b) asi ea .byte 0xFF)

/-- An odd rd names no pair: no behaviour is defined (R166, D7; log 17). -/
def oddPair (rd : RegNum) : Bool := rd.getLsbD 0

/-- The checks of an alternate-space instruction, in order, and its space and address (R161, R162): i = 1 is
illegal, user mode is privileged. -/
def withAlternate (rs1 : RegNum) (a : AltOperand) (s : State)
    (access : Asi → Word → Host.Outcome State Fault Refusal) : Host.Outcome State Fault Refusal :=
  match a with
  | .imm _ => raise .illegalInstruction s
  | .reg asi rs2 =>
    if s.psr.s then access asi (readReg s rs1 + readReg s rs2) else raise .privilegedInstruction s

/-- LDSB (R170). -/
def execLdsb (rd rs1 : RegNum) (o : RegImm) (s : State) : Host.Outcome State Fault Refusal :=
  unlessUnsettled (.ldsb rd rs1 o) s (loadReg .byte signByte (dataAsi s) (effAddr s rs1 o) rd s)

/-- LDSH (R171). -/
def execLdsh (rd rs1 : RegNum) (o : RegImm) (s : State) : Host.Outcome State Fault Refusal :=
  unlessUnsettled (.ldsh rd rs1 o) s (loadReg .half signHalf (dataAsi s) (effAddr s rs1 o) rd s)

/-- LDUB (R172). -/
def execLdub (rd rs1 : RegNum) (o : RegImm) (s : State) : Host.Outcome State Fault Refusal :=
  unlessUnsettled (.ldub rd rs1 o) s (loadReg .byte id (dataAsi s) (effAddr s rs1 o) rd s)

/-- LDUH (R173). -/
def execLduh (rd rs1 : RegNum) (o : RegImm) (s : State) : Host.Outcome State Fault Refusal :=
  unlessUnsettled (.lduh rd rs1 o) s (loadReg .half id (dataAsi s) (effAddr s rs1 o) rd s)

/-- LD (R174). -/
def execLd (rd rs1 : RegNum) (o : RegImm) (s : State) : Host.Outcome State Fault Refusal :=
  unlessUnsettled (.ld rd rs1 o) s (loadReg .word id (dataAsi s) (effAddr s rs1 o) rd s)

/-- LDD (R175). -/
def execLdd (rd rs1 : RegNum) (o : RegImm) (s : State) : Host.Outcome State Fault Refusal :=
  unlessUnsettled (.ldd rd rs1 o) s
    (if oddPair rd then .refused .oddDoublewordRegister else loadPair (dataAsi s) (effAddr s rs1 o) rd s)

/-- LDSBA (R176). -/
def execLdsba (rd rs1 : RegNum) (a : AltOperand) (s : State) : Host.Outcome State Fault Refusal :=
  unlessUnsettled (.ldsba rd rs1 a) s (withAlternate rs1 a s (fun asi ea => loadReg .byte signByte asi ea rd s))

/-- LDSHA (R177). -/
def execLdsha (rd rs1 : RegNum) (a : AltOperand) (s : State) : Host.Outcome State Fault Refusal :=
  unlessUnsettled (.ldsha rd rs1 a) s (withAlternate rs1 a s (fun asi ea => loadReg .half signHalf asi ea rd s))

/-- LDUBA (R178). -/
def execLduba (rd rs1 : RegNum) (a : AltOperand) (s : State) : Host.Outcome State Fault Refusal :=
  unlessUnsettled (.lduba rd rs1 a) s (withAlternate rs1 a s (fun asi ea => loadReg .byte id asi ea rd s))

/-- LDUHA (R179). -/
def execLduha (rd rs1 : RegNum) (a : AltOperand) (s : State) : Host.Outcome State Fault Refusal :=
  unlessUnsettled (.lduha rd rs1 a) s (withAlternate rs1 a s (fun asi ea => loadReg .half id asi ea rd s))

/-- LDA (R180). -/
def execLda (rd rs1 : RegNum) (a : AltOperand) (s : State) : Host.Outcome State Fault Refusal :=
  unlessUnsettled (.lda rd rs1 a) s (withAlternate rs1 a s (fun asi ea => loadReg .word id asi ea rd s))

/-- LDDA (R181). -/
def execLdda (rd rs1 : RegNum) (a : AltOperand) (s : State) : Host.Outcome State Fault Refusal :=
  unlessUnsettled (.ldda rd rs1 a) s <|
    withAlternate rs1 a s (fun asi ea =>
      if oddPair rd then .refused .oddDoublewordRegister else loadPair asi ea rd s)

/-- STB (R182). -/
def execStb (rd rs1 : RegNum) (o : RegImm) (s : State) : Host.Outcome State Fault Refusal :=
  unlessUnsettled (.stb rd rs1 o) s (storeReg .byte (dataAsi s) (effAddr s rs1 o) rd s)

/-- STH (R183). -/
def execSth (rd rs1 : RegNum) (o : RegImm) (s : State) : Host.Outcome State Fault Refusal :=
  unlessUnsettled (.sth rd rs1 o) s (storeReg .half (dataAsi s) (effAddr s rs1 o) rd s)

/-- ST (R184). -/
def execSt (rd rs1 : RegNum) (o : RegImm) (s : State) : Host.Outcome State Fault Refusal :=
  unlessUnsettled (.st rd rs1 o) s (storeReg .word (dataAsi s) (effAddr s rs1 o) rd s)

/-- STD (R185). -/
def execStd (rd rs1 : RegNum) (o : RegImm) (s : State) : Host.Outcome State Fault Refusal :=
  unlessUnsettled (.std rd rs1 o) s <|
    if oddPair rd then .refused .oddDoublewordRegister
    else storePair (dataAsi s) (effAddr s rs1 o) (readReg s rd) (readReg s (rd + 1)) s

/-- STBA (R186). -/
def execStba (rd rs1 : RegNum) (a : AltOperand) (s : State) : Host.Outcome State Fault Refusal :=
  unlessUnsettled (.stba rd rs1 a) s (withAlternate rs1 a s (fun asi ea => storeReg .byte asi ea rd s))

/-- STHA (R187). -/
def execStha (rd rs1 : RegNum) (a : AltOperand) (s : State) : Host.Outcome State Fault Refusal :=
  unlessUnsettled (.stha rd rs1 a) s (withAlternate rs1 a s (fun asi ea => storeReg .half asi ea rd s))

/-- STA (R188). -/
def execSta (rd rs1 : RegNum) (a : AltOperand) (s : State) : Host.Outcome State Fault Refusal :=
  unlessUnsettled (.sta rd rs1 a) s (withAlternate rs1 a s (fun asi ea => storeReg .word asi ea rd s))

/-- STDA (R189). -/
def execStda (rd rs1 : RegNum) (a : AltOperand) (s : State) : Host.Outcome State Fault Refusal :=
  unlessUnsettled (.stda rd rs1 a) s <|
    withAlternate rs1 a s (fun asi ea =>
      if oddPair rd then .refused .oddDoublewordRegister
      else storePair asi ea (readReg s rd) (readReg s (rd + 1)) s)

/-- LDSTUB (R190). -/
def execLdstub (rd rs1 : RegNum) (o : RegImm) (s : State) : Host.Outcome State Fault Refusal :=
  unlessUnsettled (.ldstub rd rs1 o) s (loadStoreByte (dataAsi s) (effAddr s rs1 o) rd s)

/-- LDSTUBA (R191). -/
def execLdstuba (rd rs1 : RegNum) (a : AltOperand) (s : State) : Host.Outcome State Fault Refusal :=
  unlessUnsettled (.ldstuba rd rs1 a) s (withAlternate rs1 a s (fun asi ea => loadStoreByte asi ea rd s))

end Sys2Proof.Machine
end

