-- ==== Sys2Proof/Machine/Float.lean ====
section
/-! DEFINITION. The IU's side of the floating point instructions, UNIMP and IFLUSH (44_fp_and_other). What the FPU
computes is outside the machine (00_scope section 3). -/

namespace Sys2Proof.Machine

/-- Record a transfer to the FPU (R360). -/
def sendFpu (es : List FpuEvent) (s : State) : State := { s with fpuOut := s.fpuOut ++ es }

/-- `fp_check_1` fails (R361). -/
def fpDisabled (s : State) : Bool := !(s.psr.ef && s.fpuPresent)

/-- Take the floating point exception trap (R362): with traps enabled, FXACK is asserted and the FPU releases
FEXC; with traps disabled, error mode. -/
def raiseFpException (s : State) : Host.Outcome State Fault Refusal :=
  if s.psr.et then raise .fpException (sendFpu [.fxack] { s with fexc := false })
  else raise .fpException s

/-- The two checks of an instruction that makes no memory access (R361, R362). -/
def withFpu (s : State) (act : Host.Outcome State Fault Refusal) : Host.Outcome State Fault Refusal :=
  if fpDisabled s then raise .fpDisabled s
  else if s.fexc then raiseFpException s
  else act

/-- An FPop: its word and address are dispatched, and nothing of the IU changes (R363). -/
def fpop (i : Instr) (s : State) : Host.Outcome State Fault Refusal :=
  withFpu s (.next (sendFpu [.op (encode i) s.pc] (advance s)))

/-- FBfcc (R368): as Bicc, on the FPU's condition code. -/
def fbfcc (c : FCond) (a : Bool) (disp22 : BitVec 22) (s : State) : Host.Outcome State Fault Refusal :=
  withFpu s (.next (branchTo (c == .always) (evalFcc c s.fcc) a (branchTarget s disp22) s))

/-- The checks of a floating point load or store, in the order of R364. -/
def withFpuAddress (bytes : Nat) (ea : Word) (s : State) (act : Host.Outcome State Fault Refusal) :
    Host.Outcome State Fault Refusal :=
  if fpDisabled s then raise .fpDisabled s
  else if !alignedTo bytes ea then raise .memAddressNotAligned s
  else if s.fexc then raiseFpException s
  else act

/-- A floating point load of one word (section 2; R366, R370): the instruction goes to the FPU, then the
datum; a trapped one is flushed (50_bus_signals R404). DESIGN CHOICE, log 30: where its MEXC meets ET = 0 and leads to
error mode instead of trap entry (60_exceptions R433), which R404 does not name, it was handed over and FLUSH follows
too. DESIGN CHOICE, log 21: one that RESET cuts is not started, and nothing of it is in the list of transfers. -/
def fpLoadWord (i : Instr) (ea : Word) (s : State) : Host.Outcome State Fault Refusal :=
  let sent := FpuEvent.loadStore (encode i) s.pc
  withFpuAddress 4 ea s
    (transact (loadCycle (dataAsi s) ea .word) s
      (fun s1 => raise .dataAccessException (sendFpu [sent, .flush] s1)) cutByReset
      fun a s1 => .next (sendFpu [sent, .data (answerRead a s1 (dataAsi s) ea .word)] (advance s1)))

/-- A floating point load of a doubleword (section 2; R367). DESIGN CHOICE, log 30: where the MEXC of either access
meets ET = 0 and leads to error mode (60_exceptions R433), it was handed over, with the first word if it was read, and
FLUSH follows too (50_bus_signals R404 does not say). DESIGN CHOICE, log 21: as for one word, a RESET on either access
leaves nothing of it. -/
def fpLoadPair (i : Instr) (ea : Word) (s : State) : Host.Outcome State Fault Refusal :=
  let sent := FpuEvent.loadStore (encode i) s.pc
  withFpuAddress 8 ea s
    (transact (pairLoadCycle false (dataAsi s) ea) s
      (fun s1 => raise .dataAccessException (sendFpu [sent, .flush] s1)) cutByReset
      fun a s1 =>
        let hi := FpuEvent.data (answerRead a s1 (dataAsi s) ea .word)
        transact (pairLoadCycle true (dataAsi s) (ea + 4)) s1
          (fun s2 => raise .dataAccessException (sendFpu [sent, hi, .flush] s2)) cutByReset
          fun b s2 =>
            .next (sendFpu [sent, hi, .data (answerRead b s2 (dataAsi s) (ea + 4) .word)] (advance s2)))

/-- The first word the FPU sources for the store (R365): a free value. -/
def fpuFirst (i : Instr) (s : State) : Word := Config.fpuStoreFirst (encode i) s.free

/-- The second word the FPU sources for a doubleword store (R365, R376): a free value. -/
def fpuSecond (i : Instr) (s : State) : Word := Config.fpuStoreSecond (encode i) s.free

/-- A floating point store of one word (section 2; R371, R372). DESIGN CHOICE, log 30: where its MEXC meets ET = 0
and leads to error mode (60_exceptions R433), it was handed over and FLUSH follows too (50_bus_signals R404 does not
say). DESIGN CHOICE, log 21: one that RESET cuts is not started. -/
def fpStoreWord (i : Instr) (ea : Word) (s : State) : Host.Outcome State Fault Refusal :=
  let sent := FpuEvent.loadStore (encode i) s.pc
  withFpuAddress 4 ea s
    (transact (storeCycle (dataAsi s) ea .word (fpuFirst i s)) s
      (fun s1 => raise .dataAccessException (sendFpu [sent, .flush] s1)) cutByReset
      fun a s1 => .next (answerWrite a (sendFpu [sent] (advance s1)) (dataAsi s) ea .word (fpuFirst i s)))

/-- A floating point store of a doubleword (section 2; R373, R376; 20_memory R108). DESIGN CHOICE, log 30: where the
MEXC of either access meets ET = 0 and leads to error mode (60_exceptions R433), it was handed over and FLUSH follows
too (50_bus_signals R404 does not say). DESIGN CHOICE, log 21: where
RESET cuts its second access it is not started, or the instruction is handed over, with no FLUSH, and its first word
stored. -/
def fpStorePair (i : Instr) (ea : Word) (s : State) : Host.Outcome State Fault Refusal :=
  let sent := FpuEvent.loadStore (encode i) s.pc
  let asi := dataAsi s
  let hi := fpuFirst i s
  withFpuAddress 8 ea s
    (transact (pairStoreCycle asi ea hi) s
      (fun s1 => raise .dataAccessException (sendFpu [sent, .flush] s1)) cutByReset
      fun a s1 =>
        transact (pairStoreCycle asi (ea + 4) (fpuSecond i s)) s1
          (fun s2 =>
            raise .dataAccessException (sendFpu [sent, .flush] (partially s (answerWrite a s2 asi ea .word hi) s2)))
          (fun s2 => cutByReset (partially s (answerWrite a (sendFpu [sent] s2) asi ea .word hi) s2))
          fun b s2 =>
            .next (answerWrite b (answerWrite a (sendFpu [sent] (advance s2)) asi ea .word hi) asi (ea + 4) .word
              (fpuSecond i s)))

/-- LDF (R366). -/
def execLdf (rd rs1 : RegNum) (a : FpOperand) (s : State) : Host.Outcome State Fault Refusal :=
  unlessUnsettled (.ldf rd rs1 a) s (fpLoadWord (.ldf rd rs1 a) (fpEffAddr s rs1 a) s)

/-- LDFSR (R370). -/
def execLdfsr (rd rs1 : RegNum) (a : FpOperand) (s : State) : Host.Outcome State Fault Refusal :=
  unlessUnsettled (.ldfsr rd rs1 a) s (fpLoadWord (.ldfsr rd rs1 a) (fpEffAddr s rs1 a) s)

/-- LDDF (R367). -/
def execLddf (rd rs1 : RegNum) (a : FpOperand) (s : State) : Host.Outcome State Fault Refusal :=
  unlessUnsettled (.lddf rd rs1 a) s (fpLoadPair (.lddf rd rs1 a) (fpEffAddr s rs1 a) s)

/-- STF (R372). -/
def execStf (rd rs1 : RegNum) (a : FpOperand) (s : State) : Host.Outcome State Fault Refusal :=
  unlessUnsettled (.stf rd rs1 a) s (fpStoreWord (.stf rd rs1 a) (fpEffAddr s rs1 a) s)

/-- STFSR (R371). -/
def execStfsr (rd rs1 : RegNum) (a : FpOperand) (s : State) : Host.Outcome State Fault Refusal :=
  unlessUnsettled (.stfsr rd rs1 a) s (fpStoreWord (.stfsr rd rs1 a) (fpEffAddr s rs1 a) s)

/-- STDFQ (R376). -/
def execStdfq (rd rs1 : RegNum) (a : FpOperand) (s : State) : Host.Outcome State Fault Refusal :=
  unlessUnsettled (.stdfq rd rs1 a) s (fpStorePair (.stdfq rd rs1 a) (fpEffAddr s rs1 a) s)

/-- STDF (R373). -/
def execStdf (rd rs1 : RegNum) (a : FpOperand) (s : State) : Host.Outcome State Fault Refusal :=
  unlessUnsettled (.stdf rd rs1 a) s (fpStorePair (.stdf rd rs1 a) (fpEffAddr s rs1 a) s)

/-- FMOVS (R363; 30_encoding R134). -/
def execFmovs (rd rs1 rs2 : RegNum) (s : State) : Host.Outcome State Fault Refusal :=
  unlessUnsettled (.fmovs rd rs1 rs2) s (fpop (.fmovs rd rs1 rs2) s)

/-- FNEGS (R363; 30_encoding R134). -/
def execFnegs (rd rs1 rs2 : RegNum) (s : State) : Host.Outcome State Fault Refusal :=
  unlessUnsettled (.fnegs rd rs1 rs2) s (fpop (.fnegs rd rs1 rs2) s)

/-- FABS (R363; 30_encoding R134). -/
def execFabs (rd rs1 rs2 : RegNum) (s : State) : Host.Outcome State Fault Refusal :=
  unlessUnsettled (.fabs rd rs1 rs2) s (fpop (.fabs rd rs1 rs2) s)

/-- FADDS (R363; 30_encoding R134). -/
def execFadds (rd rs1 rs2 : RegNum) (s : State) : Host.Outcome State Fault Refusal :=
  unlessUnsettled (.fadds rd rs1 rs2) s (fpop (.fadds rd rs1 rs2) s)

/-- FADDD (R363; 30_encoding R134). -/
def execFaddd (rd rs1 rs2 : RegNum) (s : State) : Host.Outcome State Fault Refusal :=
  unlessUnsettled (.faddd rd rs1 rs2) s (fpop (.faddd rd rs1 rs2) s)

/-- FSUBS (R363; 30_encoding R134). -/
def execFsubs (rd rs1 rs2 : RegNum) (s : State) : Host.Outcome State Fault Refusal :=
  unlessUnsettled (.fsubs rd rs1 rs2) s (fpop (.fsubs rd rs1 rs2) s)

/-- FSUBD (R363; 30_encoding R134). -/
def execFsubd (rd rs1 rs2 : RegNum) (s : State) : Host.Outcome State Fault Refusal :=
  unlessUnsettled (.fsubd rd rs1 rs2) s (fpop (.fsubd rd rs1 rs2) s)

/-- FMULS (R363; 30_encoding R134). -/
def execFmuls (rd rs1 rs2 : RegNum) (s : State) : Host.Outcome State Fault Refusal :=
  unlessUnsettled (.fmuls rd rs1 rs2) s (fpop (.fmuls rd rs1 rs2) s)

/-- FMULD (R363; 30_encoding R134). -/
def execFmuld (rd rs1 rs2 : RegNum) (s : State) : Host.Outcome State Fault Refusal :=
  unlessUnsettled (.fmuld rd rs1 rs2) s (fpop (.fmuld rd rs1 rs2) s)

/-- FDIVS (R363; 30_encoding R134). -/
def execFdivs (rd rs1 rs2 : RegNum) (s : State) : Host.Outcome State Fault Refusal :=
  unlessUnsettled (.fdivs rd rs1 rs2) s (fpop (.fdivs rd rs1 rs2) s)

/-- FDIVD (R363; 30_encoding R134). -/
def execFdivd (rd rs1 rs2 : RegNum) (s : State) : Host.Outcome State Fault Refusal :=
  unlessUnsettled (.fdivd rd rs1 rs2) s (fpop (.fdivd rd rs1 rs2) s)

/-- FITOS (R363; 30_encoding R134). -/
def execFitos (rd rs1 rs2 : RegNum) (s : State) : Host.Outcome State Fault Refusal :=
  unlessUnsettled (.fitos rd rs1 rs2) s (fpop (.fitos rd rs1 rs2) s)

/-- FSTOD (R363; 30_encoding R134). -/
def execFstod (rd rs1 rs2 : RegNum) (s : State) : Host.Outcome State Fault Refusal :=
  unlessUnsettled (.fstod rd rs1 rs2) s (fpop (.fstod rd rs1 rs2) s)

/-- FDTOS (R363; 30_encoding R134). -/
def execFdtos (rd rs1 rs2 : RegNum) (s : State) : Host.Outcome State Fault Refusal :=
  unlessUnsettled (.fdtos rd rs1 rs2) s (fpop (.fdtos rd rs1 rs2) s)

/-- FITOD (R363; 30_encoding R134). -/
def execFitod (rd rs1 rs2 : RegNum) (s : State) : Host.Outcome State Fault Refusal :=
  unlessUnsettled (.fitod rd rs1 rs2) s (fpop (.fitod rd rs1 rs2) s)

/-- FSTOI (R363; 30_encoding R134). -/
def execFstoi (rd rs1 rs2 : RegNum) (s : State) : Host.Outcome State Fault Refusal :=
  unlessUnsettled (.fstoi rd rs1 rs2) s (fpop (.fstoi rd rs1 rs2) s)

/-- FDTOI (R363; 30_encoding R134). -/
def execFdtoi (rd rs1 rs2 : RegNum) (s : State) : Host.Outcome State Fault Refusal :=
  unlessUnsettled (.fdtoi rd rs1 rs2) s (fpop (.fdtoi rd rs1 rs2) s)

/-- FCMPS (R363; 30_encoding R134). -/
def execFcmps (rd rs1 rs2 : RegNum) (s : State) : Host.Outcome State Fault Refusal :=
  unlessUnsettled (.fcmps rd rs1 rs2) s (fpop (.fcmps rd rs1 rs2) s)

/-- FCMPD (R363; 30_encoding R134). -/
def execFcmpd (rd rs1 rs2 : RegNum) (s : State) : Host.Outcome State Fault Refusal :=
  unlessUnsettled (.fcmpd rd rs1 rs2) s (fpop (.fcmpd rd rs1 rs2) s)

/-- FCMPES (R363; 30_encoding R134). -/
def execFcmpes (rd rs1 rs2 : RegNum) (s : State) : Host.Outcome State Fault Refusal :=
  unlessUnsettled (.fcmpes rd rs1 rs2) s (fpop (.fcmpes rd rs1 rs2) s)

/-- FCMPED (R363; 30_encoding R134). -/
def execFcmped (rd rs1 rs2 : RegNum) (s : State) : Host.Outcome State Fault Refusal :=
  unlessUnsettled (.fcmped rd rs1 rs2) s (fpop (.fcmped rd rs1 rs2) s)

/-- FPop1 with an opf that has no row of its own (R363). -/
def execFpop1 (rd rs1 : RegNum) (opf : BitVec 9) (rs2 : RegNum) (s : State) : Host.Outcome State Fault Refusal :=
  unlessUnsettled (.fpop1 rd rs1 opf rs2) s (fpop (.fpop1 rd rs1 opf rs2) s)

/-- FPop2 with an opf that has no row of its own (R363). -/
def execFpop2 (rd rs1 : RegNum) (opf : BitVec 9) (rs2 : RegNum) (s : State) : Host.Outcome State Fault Refusal :=
  unlessUnsettled (.fpop2 rd rs1 opf rs2) s (fpop (.fpop2 rd rs1 opf rs2) s)

/-- FBA (R368). -/
def execFba (a : Bool) (disp22 : BitVec 22) (s : State) : Host.Outcome State Fault Refusal :=
  unlessUnsettled (.fba a disp22) s (fbfcc .always a disp22 s)

/-- FBN (R368). -/
def execFbn (a : Bool) (disp22 : BitVec 22) (s : State) : Host.Outcome State Fault Refusal :=
  unlessUnsettled (.fbn a disp22) s (fbfcc .never a disp22 s)

/-- FBU (R368). -/
def execFbu (a : Bool) (disp22 : BitVec 22) (s : State) : Host.Outcome State Fault Refusal :=
  unlessUnsettled (.fbu a disp22) s (fbfcc .unordered a disp22 s)

/-- FBG (R368). -/
def execFbg (a : Bool) (disp22 : BitVec 22) (s : State) : Host.Outcome State Fault Refusal :=
  unlessUnsettled (.fbg a disp22) s (fbfcc .greater a disp22 s)

/-- FBUG (R368). -/
def execFbug (a : Bool) (disp22 : BitVec 22) (s : State) : Host.Outcome State Fault Refusal :=
  unlessUnsettled (.fbug a disp22) s (fbfcc .unorderedOrGreater a disp22 s)

/-- FBL (R368). -/
def execFbl (a : Bool) (disp22 : BitVec 22) (s : State) : Host.Outcome State Fault Refusal :=
  unlessUnsettled (.fbl a disp22) s (fbfcc .less a disp22 s)

/-- FBUL (R368). -/
def execFbul (a : Bool) (disp22 : BitVec 22) (s : State) : Host.Outcome State Fault Refusal :=
  unlessUnsettled (.fbul a disp22) s (fbfcc .unorderedOrLess a disp22 s)

/-- FBLG (R368). -/
def execFblg (a : Bool) (disp22 : BitVec 22) (s : State) : Host.Outcome State Fault Refusal :=
  unlessUnsettled (.fblg a disp22) s (fbfcc .lessOrGreater a disp22 s)

/-- FBNE (R368). -/
def execFbne (a : Bool) (disp22 : BitVec 22) (s : State) : Host.Outcome State Fault Refusal :=
  unlessUnsettled (.fbne a disp22) s (fbfcc .notEqual a disp22 s)

/-- FBE (R368). -/
def execFbe (a : Bool) (disp22 : BitVec 22) (s : State) : Host.Outcome State Fault Refusal :=
  unlessUnsettled (.fbe a disp22) s (fbfcc .equal a disp22 s)

/-- FBUE (R368). -/
def execFbue (a : Bool) (disp22 : BitVec 22) (s : State) : Host.Outcome State Fault Refusal :=
  unlessUnsettled (.fbue a disp22) s (fbfcc .unorderedOrEqual a disp22 s)

/-- FBGE (R368). -/
def execFbge (a : Bool) (disp22 : BitVec 22) (s : State) : Host.Outcome State Fault Refusal :=
  unlessUnsettled (.fbge a disp22) s (fbfcc .greaterOrEqual a disp22 s)

/-- FBUGE (R368). -/
def execFbuge (a : Bool) (disp22 : BitVec 22) (s : State) : Host.Outcome State Fault Refusal :=
  unlessUnsettled (.fbuge a disp22) s (fbfcc .unorderedGreaterOrEqual a disp22 s)

/-- FBLE (R368). -/
def execFble (a : Bool) (disp22 : BitVec 22) (s : State) : Host.Outcome State Fault Refusal :=
  unlessUnsettled (.fble a disp22) s (fbfcc .lessOrEqual a disp22 s)

/-- FBULE (R368). -/
def execFbule (a : Bool) (disp22 : BitVec 22) (s : State) : Host.Outcome State Fault Refusal :=
  unlessUnsettled (.fbule a disp22) s (fbfcc .unorderedLessOrEqual a disp22 s)

/-- FBO (R368). -/
def execFbo (a : Bool) (disp22 : BitVec 22) (s : State) : Host.Outcome State Fault Refusal :=
  unlessUnsettled (.fbo a disp22) s (fbfcc .ordered a disp22 s)

/-- UNIMP (R374): illegal in either mode; the constant is ignored. -/
def execUnimp (const22 : BitVec 22) (s : State) : Host.Outcome State Fault Refusal :=
  unlessUnsettled (.unimp const22) s (raise .illegalInstruction s)

/-- IFLUSH (R375): with TC high a NOP whose address is not looked at, with TC low illegal. -/
def execIflush (rs1 : RegNum) (o : RegImm) (s : State) : Host.Outcome State Fault Refusal :=
  unlessUnsettled (.iflush rs1 o) s (if s.tc then .next (advance s) else raise .illegalInstruction s)

end Sys2Proof.Machine
end

