-- ==== Sys2Proof/Machine/StateRegs.lean ====
section
/-! DEFINITION. The read and write state register instructions (43_state_registers). A read within three
instructions of a write of its register is refused (R346, D13; `unlessUnsettled`). -/

namespace Sys2Proof.Machine

/-- Write `r[rd]` and go on. -/
def readState (rd : RegNum) (v : Word) (s : State) : Host.Outcome State Fault Refusal :=
  .next (writeWin (advance s) (curWindow s) rd v)

/-- A privileged instruction in user mode traps and does nothing else (R330; 60_exceptions R452). -/
def supervisorOnly (s : State) (act : Host.Outcome State Fault Refusal) : Host.Outcome State Fault Refusal :=
  if s.psr.s then act else raise .privilegedInstruction s

/-- What RDPSR reads: all 32 bits, bits 19:14 any value (R333; 10_state R38, D14). -/
def psrRead (s : State) : Word := psrWord { s.psr with reserved := Config.freeReserved s.free }

/-- RDY (R332): not privileged. -/
def execRdy (rd : RegNum) (s : State) : Host.Outcome State Fault Refusal :=
  unlessUnsettled (.rdy rd) s (readState rd s.y s)

/-- RDPSR (R333). -/
def execRdpsr (rd : RegNum) (s : State) : Host.Outcome State Fault Refusal :=
  unlessUnsettled (.rdpsr rd) s (supervisorOnly s (readState rd (psrRead s) s))

/-- RDWIM (R334). -/
def execRdwim (rd : RegNum) (s : State) : Host.Outcome State Fault Refusal :=
  unlessUnsettled (.rdwim rd) s (supervisorOnly s (readState rd (wimWord s) s))

/-- RDTBR (R335). -/
def execRdtbr (rd : RegNum) (s : State) : Host.Outcome State Fault Refusal :=
  unlessUnsettled (.rdtbr rd) s (supervisorOnly s (readState rd (tbrWord s) s))

/-- WRY (R337): not privileged. -/
def execWry (rs1 : RegNum) (o : RegImm) (s : State) : Host.Outcome State Fault Refusal :=
  unlessUnsettled (.wry rs1 o) s (.next (writeY (xorValue s rs1 o) s))

/-- WRPSR (R336): a CWP of 7 or more is illegal, before the privilege check. -/
def execWrpsr (rs1 : RegNum) (o : RegImm) (s : State) : Host.Outcome State Fault Refusal :=
  unlessUnsettled (.wrpsr rs1 o) s <|
    let v := xorValue s rs1 o
    let cwp := (v.extractLsb' 0 5).toNat
    if cwp < Config.nWindows then
      supervisorOnly s (.next (writePsr (psrOfWord v (Fin.ofNat 7 cwp)) s))
    else raise .illegalInstruction s

/-- WRWIM (R338). -/
def execWrwim (rs1 : RegNum) (o : RegImm) (s : State) : Host.Outcome State Fault Refusal :=
  unlessUnsettled (.wrwim rs1 o) s (supervisorOnly s (.next (writeWim (xorValue s rs1 o) s)))

/-- WRTBR (R339). -/
def execWrtbr (rs1 : RegNum) (o : RegImm) (s : State) : Host.Outcome State Fault Refusal :=
  unlessUnsettled (.wrtbr rs1 o) s (supervisorOnly s (.next (writeTbr (xorValue s rs1 o) s)))

end Sys2Proof.Machine
end

