-- ==== Sys2Proof/Machine/Dispatch.lean ====
section
/-! DEFINITION. One arm per instruction, each one direct call of its meaning. -/

namespace Sys2Proof.Machine

def exec (i : Instr) (s : State) : Host.Outcome State Fault Refusal :=
  match i with
  | .ld rd rs1 o => Sys2Proof.Machine.execLd rd rs1 o s
  | .ldub rd rs1 o => Sys2Proof.Machine.execLdub rd rs1 o s
  | .lduh rd rs1 o => Sys2Proof.Machine.execLduh rd rs1 o s
  | .ldd rd rs1 o => Sys2Proof.Machine.execLdd rd rs1 o s
  | .st rd rs1 o => Sys2Proof.Machine.execSt rd rs1 o s
  | .stb rd rs1 o => Sys2Proof.Machine.execStb rd rs1 o s
  | .sth rd rs1 o => Sys2Proof.Machine.execSth rd rs1 o s
  | .std rd rs1 o => Sys2Proof.Machine.execStd rd rs1 o s
  | .ldsb rd rs1 o => Sys2Proof.Machine.execLdsb rd rs1 o s
  | .ldsh rd rs1 o => Sys2Proof.Machine.execLdsh rd rs1 o s
  | .ldstub rd rs1 o => Sys2Proof.Machine.execLdstub rd rs1 o s
  | .lda rd rs1 a => Sys2Proof.Machine.execLda rd rs1 a s
  | .lduba rd rs1 a => Sys2Proof.Machine.execLduba rd rs1 a s
  | .lduha rd rs1 a => Sys2Proof.Machine.execLduha rd rs1 a s
  | .ldda rd rs1 a => Sys2Proof.Machine.execLdda rd rs1 a s
  | .sta rd rs1 a => Sys2Proof.Machine.execSta rd rs1 a s
  | .stba rd rs1 a => Sys2Proof.Machine.execStba rd rs1 a s
  | .stha rd rs1 a => Sys2Proof.Machine.execStha rd rs1 a s
  | .stda rd rs1 a => Sys2Proof.Machine.execStda rd rs1 a s
  | .ldsba rd rs1 a => Sys2Proof.Machine.execLdsba rd rs1 a s
  | .ldsha rd rs1 a => Sys2Proof.Machine.execLdsha rd rs1 a s
  | .ldstuba rd rs1 a => Sys2Proof.Machine.execLdstuba rd rs1 a s
  | .ldf rd rs1 a => Sys2Proof.Machine.execLdf rd rs1 a s
  | .ldfsr rd rs1 a => Sys2Proof.Machine.execLdfsr rd rs1 a s
  | .lddf rd rs1 a => Sys2Proof.Machine.execLddf rd rs1 a s
  | .stf rd rs1 a => Sys2Proof.Machine.execStf rd rs1 a s
  | .stfsr rd rs1 a => Sys2Proof.Machine.execStfsr rd rs1 a s
  | .stdfq rd rs1 a => Sys2Proof.Machine.execStdfq rd rs1 a s
  | .stdf rd rs1 a => Sys2Proof.Machine.execStdf rd rs1 a s
  | .add rd rs1 o => Sys2Proof.Machine.execAdd rd rs1 o s
  | .addcc rd rs1 o => Sys2Proof.Machine.execAddcc rd rs1 o s
  | .addx rd rs1 o => Sys2Proof.Machine.execAddx rd rs1 o s
  | .addxcc rd rs1 o => Sys2Proof.Machine.execAddxcc rd rs1 o s
  | .sub rd rs1 o => Sys2Proof.Machine.execSub rd rs1 o s
  | .subcc rd rs1 o => Sys2Proof.Machine.execSubcc rd rs1 o s
  | .subx rd rs1 o => Sys2Proof.Machine.execSubx rd rs1 o s
  | .subxcc rd rs1 o => Sys2Proof.Machine.execSubxcc rd rs1 o s
  | .taddcc rd rs1 o => Sys2Proof.Machine.execTaddcc rd rs1 o s
  | .tsubcc rd rs1 o => Sys2Proof.Machine.execTsubcc rd rs1 o s
  | .taddcctv rd rs1 o => Sys2Proof.Machine.execTaddcctv rd rs1 o s
  | .tsubcctv rd rs1 o => Sys2Proof.Machine.execTsubcctv rd rs1 o s
  | .mulscc rd rs1 o => Sys2Proof.Machine.execMulscc rd rs1 o s
  | .and rd rs1 o => Sys2Proof.Machine.execAnd rd rs1 o s
  | .andcc rd rs1 o => Sys2Proof.Machine.execAndcc rd rs1 o s
  | .andn rd rs1 o => Sys2Proof.Machine.execAndn rd rs1 o s
  | .andncc rd rs1 o => Sys2Proof.Machine.execAndncc rd rs1 o s
  | .or rd rs1 o => Sys2Proof.Machine.execOr rd rs1 o s
  | .orcc rd rs1 o => Sys2Proof.Machine.execOrcc rd rs1 o s
  | .orn rd rs1 o => Sys2Proof.Machine.execOrn rd rs1 o s
  | .orncc rd rs1 o => Sys2Proof.Machine.execOrncc rd rs1 o s
  | .xor rd rs1 o => Sys2Proof.Machine.execXor rd rs1 o s
  | .xorcc rd rs1 o => Sys2Proof.Machine.execXorcc rd rs1 o s
  | .xnor rd rs1 o => Sys2Proof.Machine.execXnor rd rs1 o s
  | .xnorcc rd rs1 o => Sys2Proof.Machine.execXnorcc rd rs1 o s
  | .sll rd rs1 o => Sys2Proof.Machine.execSll rd rs1 o s
  | .srl rd rs1 o => Sys2Proof.Machine.execSrl rd rs1 o s
  | .sra rd rs1 o => Sys2Proof.Machine.execSra rd rs1 o s
  | .save rd rs1 o => Sys2Proof.Machine.execSave rd rs1 o s
  | .restore rd rs1 o => Sys2Proof.Machine.execRestore rd rs1 o s
  | .sethi rd imm22 => Sys2Proof.Machine.execSethi rd imm22 s
  | .ba a disp22 => Sys2Proof.Machine.execBa a disp22 s
  | .bn a disp22 => Sys2Proof.Machine.execBn a disp22 s
  | .bne a disp22 => Sys2Proof.Machine.execBne a disp22 s
  | .be a disp22 => Sys2Proof.Machine.execBe a disp22 s
  | .bg a disp22 => Sys2Proof.Machine.execBg a disp22 s
  | .ble a disp22 => Sys2Proof.Machine.execBle a disp22 s
  | .bge a disp22 => Sys2Proof.Machine.execBge a disp22 s
  | .bl a disp22 => Sys2Proof.Machine.execBl a disp22 s
  | .bgu a disp22 => Sys2Proof.Machine.execBgu a disp22 s
  | .bleu a disp22 => Sys2Proof.Machine.execBleu a disp22 s
  | .bcc a disp22 => Sys2Proof.Machine.execBcc a disp22 s
  | .bcs a disp22 => Sys2Proof.Machine.execBcs a disp22 s
  | .bpos a disp22 => Sys2Proof.Machine.execBpos a disp22 s
  | .bneg a disp22 => Sys2Proof.Machine.execBneg a disp22 s
  | .bvc a disp22 => Sys2Proof.Machine.execBvc a disp22 s
  | .bvs a disp22 => Sys2Proof.Machine.execBvs a disp22 s
  | .call disp30 => Sys2Proof.Machine.execCall disp30 s
  | .jmpl rd rs1 o => Sys2Proof.Machine.execJmpl rd rs1 o s
  | .rett rs1 o => Sys2Proof.Machine.execRett rs1 o s
  | .ta rs1 o => Sys2Proof.Machine.execTa rs1 o s
  | .tn rs1 o => Sys2Proof.Machine.execTn rs1 o s
  | .tne rs1 o => Sys2Proof.Machine.execTne rs1 o s
  | .te rs1 o => Sys2Proof.Machine.execTe rs1 o s
  | .tg rs1 o => Sys2Proof.Machine.execTg rs1 o s
  | .tle rs1 o => Sys2Proof.Machine.execTle rs1 o s
  | .tge rs1 o => Sys2Proof.Machine.execTge rs1 o s
  | .tl rs1 o => Sys2Proof.Machine.execTl rs1 o s
  | .tgu rs1 o => Sys2Proof.Machine.execTgu rs1 o s
  | .tleu rs1 o => Sys2Proof.Machine.execTleu rs1 o s
  | .tcc rs1 o => Sys2Proof.Machine.execTcc rs1 o s
  | .tcs rs1 o => Sys2Proof.Machine.execTcs rs1 o s
  | .tpos rs1 o => Sys2Proof.Machine.execTpos rs1 o s
  | .tneg rs1 o => Sys2Proof.Machine.execTneg rs1 o s
  | .tvc rs1 o => Sys2Proof.Machine.execTvc rs1 o s
  | .tvs rs1 o => Sys2Proof.Machine.execTvs rs1 o s
  | .rdy rd => Sys2Proof.Machine.execRdy rd s
  | .rdpsr rd => Sys2Proof.Machine.execRdpsr rd s
  | .rdwim rd => Sys2Proof.Machine.execRdwim rd s
  | .rdtbr rd => Sys2Proof.Machine.execRdtbr rd s
  | .wry rs1 o => Sys2Proof.Machine.execWry rs1 o s
  | .wrpsr rs1 o => Sys2Proof.Machine.execWrpsr rs1 o s
  | .wrwim rs1 o => Sys2Proof.Machine.execWrwim rs1 o s
  | .wrtbr rs1 o => Sys2Proof.Machine.execWrtbr rs1 o s
  | .fmovs rd rs1 rs2 => Sys2Proof.Machine.execFmovs rd rs1 rs2 s
  | .fnegs rd rs1 rs2 => Sys2Proof.Machine.execFnegs rd rs1 rs2 s
  | .fabs rd rs1 rs2 => Sys2Proof.Machine.execFabs rd rs1 rs2 s
  | .fadds rd rs1 rs2 => Sys2Proof.Machine.execFadds rd rs1 rs2 s
  | .faddd rd rs1 rs2 => Sys2Proof.Machine.execFaddd rd rs1 rs2 s
  | .fsubs rd rs1 rs2 => Sys2Proof.Machine.execFsubs rd rs1 rs2 s
  | .fsubd rd rs1 rs2 => Sys2Proof.Machine.execFsubd rd rs1 rs2 s
  | .fmuls rd rs1 rs2 => Sys2Proof.Machine.execFmuls rd rs1 rs2 s
  | .fmuld rd rs1 rs2 => Sys2Proof.Machine.execFmuld rd rs1 rs2 s
  | .fdivs rd rs1 rs2 => Sys2Proof.Machine.execFdivs rd rs1 rs2 s
  | .fdivd rd rs1 rs2 => Sys2Proof.Machine.execFdivd rd rs1 rs2 s
  | .fitos rd rs1 rs2 => Sys2Proof.Machine.execFitos rd rs1 rs2 s
  | .fstod rd rs1 rs2 => Sys2Proof.Machine.execFstod rd rs1 rs2 s
  | .fdtos rd rs1 rs2 => Sys2Proof.Machine.execFdtos rd rs1 rs2 s
  | .fitod rd rs1 rs2 => Sys2Proof.Machine.execFitod rd rs1 rs2 s
  | .fstoi rd rs1 rs2 => Sys2Proof.Machine.execFstoi rd rs1 rs2 s
  | .fdtoi rd rs1 rs2 => Sys2Proof.Machine.execFdtoi rd rs1 rs2 s
  | .fcmps rd rs1 rs2 => Sys2Proof.Machine.execFcmps rd rs1 rs2 s
  | .fcmpd rd rs1 rs2 => Sys2Proof.Machine.execFcmpd rd rs1 rs2 s
  | .fcmpes rd rs1 rs2 => Sys2Proof.Machine.execFcmpes rd rs1 rs2 s
  | .fcmped rd rs1 rs2 => Sys2Proof.Machine.execFcmped rd rs1 rs2 s
  | .fpop1 rd rs1 opf rs2 => Sys2Proof.Machine.execFpop1 rd rs1 opf rs2 s
  | .fpop2 rd rs1 opf rs2 => Sys2Proof.Machine.execFpop2 rd rs1 opf rs2 s
  | .fba a disp22 => Sys2Proof.Machine.execFba a disp22 s
  | .fbn a disp22 => Sys2Proof.Machine.execFbn a disp22 s
  | .fbu a disp22 => Sys2Proof.Machine.execFbu a disp22 s
  | .fbg a disp22 => Sys2Proof.Machine.execFbg a disp22 s
  | .fbug a disp22 => Sys2Proof.Machine.execFbug a disp22 s
  | .fbl a disp22 => Sys2Proof.Machine.execFbl a disp22 s
  | .fbul a disp22 => Sys2Proof.Machine.execFbul a disp22 s
  | .fblg a disp22 => Sys2Proof.Machine.execFblg a disp22 s
  | .fbne a disp22 => Sys2Proof.Machine.execFbne a disp22 s
  | .fbe a disp22 => Sys2Proof.Machine.execFbe a disp22 s
  | .fbue a disp22 => Sys2Proof.Machine.execFbue a disp22 s
  | .fbge a disp22 => Sys2Proof.Machine.execFbge a disp22 s
  | .fbuge a disp22 => Sys2Proof.Machine.execFbuge a disp22 s
  | .fble a disp22 => Sys2Proof.Machine.execFble a disp22 s
  | .fbule a disp22 => Sys2Proof.Machine.execFbule a disp22 s
  | .fbo a disp22 => Sys2Proof.Machine.execFbo a disp22 s
  | .unimp const22 => Sys2Proof.Machine.execUnimp const22 s
  | .iflush rs1 o => Sys2Proof.Machine.execIflush rs1 o s

end Sys2Proof.Machine
end

