-- ==== Sys2Proof/Machine/Cycle.lean ====
section
/-! DEFINITION. What happens at an instruction boundary and around an instruction: the platform's inputs, reset,
interrupts, the fetch (60_exceptions R440 to R446; 70_reset_and_hazards R480; 20_memory R86, R104). -/

namespace Sys2Proof.Machine

/-- What comes at this boundary, and the inputs after it; after the last, nothing happens (log 6). -/
def nextInput (s : State) : Input := s.inputs.headD Input.quiet

/-- The state at the boundary, once the other bus masters' writes (20_memory R106) and the FPU's signals
(44_fp_and_other R360, R362) have arrived. FEXC stays asserted until FXACK (50_bus_signals R404); while RESET is
held the FPU's state is open (10_state R61) and FEXC is what the input gives. DESIGN CHOICE, log 40. -/
def receiveInput (s : State) : State :=
  let inp := nextInput s
  { s with
    inputs := s.inputs.tail
    mem := s.mem.setCells inp.writes
    fexc := if s.mode = .reset then inp.fexc else s.fexc || inp.fexc
    fcc := inp.fcc.getD s.fcc }

/-- A WRPSR that changed ET or PIL is within its window (43_state_registers R342). -/
def interruptTestOpen (s : State) : Bool := s.psrDelay.live.et || s.psrDelay.live.pil

/-- The ET of the interrupt test: the old or the new one while the window is open (R342, D21). -/
def testEt (s : State) : Bool :=
  if interruptTestOpen s && Config.choiceOldEt s.free then s.psrDelay.oldEt else s.psr.et

/-- The PIL of the interrupt test: the old or the new one while the window is open (R342, D21). -/
def testPil (s : State) : BitVec 4 :=
  if interruptTestOpen s && Config.choiceOldPil s.free then s.psrDelay.oldPil else s.psr.pil

/-- Whether a level is accepted (60_exceptions R441): ET = 1, and level 15 or a level above PIL. -/
def acceptsInterrupt (s : State) (level : BitVec 4) : Bool :=
  level != 0 && testEt s && (level == 15 || decide (testPil s < level))

/-- The earlier contents of the word at a place that may still be executed (20_memory R104). -/
def staleWords : List StaleWord → Nat → List Word
  | [], _ => []
  | w :: ws, p => if w.place = p then w.old :: staleWords ws p else staleWords ws p

/-- The word memory gives a fetch at a place: the one it holds, unless a store of the last four instructions
changed it; then that one or an earlier one (20_memory R104, D12). -/
def fetchedWord (s : State) (p : Nat) : Word :=
  match staleWords s.stale p with
  | [] => s.mem.word p
  | w :: ws => (s.mem.word p :: w :: ws).getD (Config.choiceStale s.free % (ws.length + 2)) (s.mem.word p)

/-- Where the next instruction is fetched (20_memory R82, R86). -/
def fetchPlace (s : State) : Nat := placeOf s (fetchAsi s) s.pc

/-- Run a decoded word: the instruction's meaning, illegal_instruction for an unassigned encoding (30_encoding
R138), a refusal for the slots of 30_encoding R139. -/
def runDecoded (d : Decoded) (s : State) : Host.Outcome State Fault Refusal :=
  match d with
  | .instr i => exec i s
  | .unassigned => raise .illegalInstruction s
  | .swapSlot => .refused .swapSlot
  | .coprocessorSlot => .refused .coprocessorSlot
  | .truncated => raise .illegalInstruction s

/-- The transaction of the fetch at PC (20_memory R86). -/
def fetchCycle (s : State) : BusCycle := ⟨.fetch, fetchAsi s, s.pc, .word, false, false⟩

/-- Fetch the instruction at PC and run it (20_memory R86): MEXC on the fetch is
instruction_access_exception (60_exceptions R446). A fetch uses S, and is refused while S is unsettled
(43_state_registers R341). Fetches of words that are not executed are not made (20_memory R98; log 39). -/
def fetchAndRun (s : State) : Host.Outcome State Fault Refusal :=
  if s.psrDelay.live.s then .refused .psrUnsettled
  else transact (fetchCycle s) s (raise .instructionAccessException) cutByReset fun a s1 =>
    match a with
    | .device d => runDecoded (decodeBytes (bytesOfWord d)) s1
    | _ => runDecoded (decodeBytes (bytesOfWord (fetchedWord s1 (fetchPlace s1)))) s1

/-- One step: the boundary, then, in execute mode, an interrupt or the instruction at PC (60_exceptions R441;
10_state R55). RESET leads out of every mode; error mode has no other way out (60_exceptions R433, D20). -/
def runStep (s : State) : Host.Outcome State Fault Refusal :=
  let inp := nextInput s
  let s1 := receiveInput s
  if inp.reset then .next (assertReset s1)
  else match s1.mode with
    | .reset => .next (releaseReset s1)
    | .error => .fault .haltedInErrorMode
    | .execute =>
      if acceptsInterrupt s1 inp.irl then enterTrap (.interrupt inp.irl) s1
      else fetchAndRun s1

/-- The state with a word stored where the next step fetches, and everything that fetch needs: execute mode, a
quiet boundary, memory answering, no earlier contents of that word (log 22). -/
def placeFetchWord (s : State) (word : Word) : State :=
  { s with
    mode := .execute
    mem := s.mem.setBytes (fetchPlace s) (bytesOfWord word)
    stale := s.stale.filter (fun w => w.place != fetchPlace s)
    bus := match s.bus with
      | [] => []
      | .memory :: rest => .memory :: rest
      | other => .memory :: other
    inputs := if nextInput s = Input.quiet then s.inputs else Input.quiet :: s.inputs }

end Sys2Proof.Machine
end

