-- ==== Sys2Proof/Machine/Step.lean ====
section
/-! DEFINITION. One step of the machine, and the placing of a first instruction. -/

namespace Sys2Proof.Machine

/-- One step (`runStep`). -/
def step (s : State) : Host.Outcome State Fault Refusal := runStep s

/-- The state with the instruction whose low `nbits` bits are those of `w`, the bits above them zero, stored
where `step` fetches its next instruction (log 22). -/
def State.withFetchWord (s : State) (nbits w : Nat) : State :=
  placeFetchWord s (BitVec.ofNat 32 (w % 2 ^ nbits))

end Sys2Proof.Machine
end

