-- ==== Sys2Proof/Safety.lean ====
section
/-! DEFINITION. What claims speak of: aligned program counters, states no window leaves open, the invariant every
step keeps, and runs that do not stop. -/

namespace Sys2Proof.Machine

/-- PC and nPC are word addresses (10_state R34). -/
abbrev pcsAligned (s : State) : Prop := alignedTo 4 s.pc = true ∧ alignedTo 4 s.npc = true

/-- Every delayed-write window has at most three instructions left, and a closed one remembers nothing
(10_state R56; 43_state_registers R340). -/
abbrev windowsSound (s : State) : Prop :=
  s.psrDelay.left ≤ 3 ∧ (s.psrDelay.left = 0 → s.psrDelay = PsrDelay.closed) ∧ s.wimDelay ≤ 3 ∧
    s.tbrDelay.left ≤ 3 ∧ (s.tbrDelay.left = 0 → s.tbrDelay = TbrDelay.closed) ∧ s.yDelay ≤ 3

/-- Every remembered word has between one and four instructions left (20_memory R104). -/
abbrev staleSound (s : State) : Prop := ∀ w ∈ s.stale, 1 ≤ w.left ∧ w.left ≤ Config.prefetchDepth

/-- The invariant every step keeps. -/
structure Inv (s : State) : Prop where
  mem : s.mem.wf = true
  pcs : pcsAligned s
  windows : windowsSound s
  stale : staleSound s

/-- No delayed-write window is open. -/
abbrev settled (s : State) : Prop :=
  s.psrDelay.left = 0 ∧ s.wimDelay = 0 ∧ s.tbrDelay.left = 0 ∧ s.yDelay = 0

/-- The instruction uses nothing that a delayed write has left unsettled (43_state_registers R340). -/
abbrev ready (i : Instr) (s : State) : Prop := unsettled i s = none

/-- Supervisor mode: privileged instructions run (60_exceptions R452). -/
abbrev supervisor (s : State) : Prop := s.psr.s = true

/-- Traps are enabled: a synchronous trap is taken (60_exceptions R430). -/
abbrev trapsEnabled (s : State) : Prop := s.psr.et = true

/-- The next `k` bus transactions are answered by plain memory. -/
def memoryAnswers (s : State) (k : Nat) : Prop := ∀ a ∈ s.bus.take k, a = BusAnswer.memory

/-- The floating point instructions get through to the FPU: enabled, present, nothing pending
(44_fp_and_other R361, R362). -/
abbrev fpuReady (s : State) : Prop :=
  s.psr.ef = true ∧ s.fpuPresent = true ∧ s.fexc = false

/-- `k` steps from `s` neither fault nor are refused. -/
def runsFor (k : Nat) (s : State) : Prop := ∃ t, Host.Core.run Sys2Proof.core k s = .next t

/-! ### What changes and what does not -/

/-- What a meaning answers. -/
abbrev Answer := Host.Outcome State Fault Refusal

/-- The register `rd` names through the current window; r0 is no register (10_state R22, R24). -/
abbrev destination (s : State) (rd : RegNum) : RegHome := home (curWindow s) rd

/-- Every register is as before. -/
def sameRegisters (s t : State) : Prop := ∀ h, readHome t h = readHome s h

/-- `d` holds `v`, unless it is r0, and every other register is as before. -/
def onlyRegister (s t : State) (d : RegHome) (v : Word) : Prop :=
  (d ≠ .zero → readHome t d = v) ∧ ∀ h, h ≠ d → readHome t h = readHome s h

/-- Every byte of memory reads as before. -/
def sameMemory (s t : State) : Prop := ∀ p, t.mem.get p = s.mem.get p

/-- Every byte of memory outside the `n` from place `p` on reads as before. -/
def sameOutside (s t : State) (p n : Nat) : Prop := ∀ q, (q < p ∨ p + n ≤ q) → t.mem.get q = s.mem.get q

/-- The special registers WIM, TBR and Y, the mode, the FPU's side and the platform's side are as before. -/
def sameSpecial (s t : State) : Prop :=
  t.wim = s.wim ∧ t.tba = s.tba ∧ t.tt = s.tt ∧ t.y = s.y ∧ t.mode = s.mode ∧ t.fexc = s.fexc ∧ t.fcc = s.fcc ∧
    t.fpuOut = s.fpuOut ∧ t.tc = s.tc ∧ t.fpuPresent = s.fpuPresent ∧ t.spaces = s.spaces ∧ t.inputs = s.inputs

/-- The bus transactions made from `s` to `t` are these, in order, one answer each (20_memory R87, R98). -/
def madeCycles (s t : State) (cycles : List BusCycle) : Prop :=
  t.bus = s.bus.drop cycles.length ∧ t.busOut = s.busOut ++ cycles

/-- `s` after these bus transactions. -/
def afterCycles (s : State) (cycles : List BusCycle) : State :=
  { s with bus := s.bus.drop cycles.length, busOut := s.busOut ++ cycles }

/-- PC and nPC are those of the next instruction in order (10_state R31). -/
def goesOn (s t : State) : Prop := t.pc = s.npc ∧ t.npc = s.npc + 4

/-- The PSR is `p`, `d` holds `v`, and nothing else of registers, special registers and memory changes. -/
def writesOnly (s t : State) (d : RegHome) (v : Word) (p : Psr) : Prop :=
  onlyRegister s t d v ∧ t.psr = p ∧ sameSpecial s t ∧ sameMemory s t

/-- The instruction, unless it uses what is unsettled, completes with no bus transaction: it goes on, `r[rd]` holds
`v`, the PSR is `p`. -/
def computes (s : State) (i : Instr) (rd : RegNum) (v : Word) (p : Psr) : Prop :=
  ready i s → ∃ t, exec i s = .next t ∧ goesOn s t ∧ writesOnly s t (destination s rd) v p ∧ madeCycles s t []

/-- The instruction, unless it uses what is unsettled, completes, writing no register and no PSR bit, with PC and nPC
as given and the special registers those of `s'`. -/
def transfers (s s' : State) (i : Instr) (pc npc : Word) : Prop :=
  ready i s → ∃ t, exec i s = .next t ∧ t.pc = pc ∧ t.npc = npc ∧ writesOnly s' t .zero 0 s.psr ∧ madeCycles s t []

/-- The instruction, unless it uses what is unsettled, completes after these bus transactions: it goes on, and `r[rd]`
holds `v`. -/
def loads (s : State) (i : Instr) (rd : RegNum) (v : Word) (cycles : List BusCycle) : Prop :=
  ready i s → ∃ t, exec i s = .next t ∧ goesOn s t ∧ writesOnly s t (destination s rd) v s.psr ∧ madeCycles s t cycles

/-- The bytes from place `p` on are these, and no other byte has changed. -/
def storesBytes (s t : State) (p : Nat) (bytes : List Byte) : Prop :=
  (∀ k, (h : k < bytes.length) → t.mem.get (p + k) = bytes[k]) ∧ sameOutside s t p bytes.length

/-- The instruction, unless it uses what is unsettled, completes after these bus transactions: it goes on, the bytes
from place `p` on are these, and nothing else changes; the special registers are those of `s'`. -/
def stores (s s' : State) (i : Instr) (p : Nat) (bytes : List Byte) (cycles : List BusCycle) : Prop :=
  ready i s → ∃ t, exec i s = .next t ∧ goesOn s t ∧ sameRegisters s t ∧ t.psr = s.psr ∧ sameSpecial s' t ∧
    storesBytes s t p bytes ∧ madeCycles s t cycles

/-- The PSR after trap entry (60_exceptions R431). -/
def trapPsr (s : State) : Psr :=
  { s.psr with et := false, ps := s.psr.s, s := true, cwp := s.psr.cwp - 1 }

/-- Trap `k` has been entered from `s` (60_exceptions R431). -/
def trapped (k : BitVec 8) (s t : State) : Prop :=
  t.psr = trapPsr s ∧ readWin t (s.psr.cwp - 1) 17 = s.pc ∧ readWin t (s.psr.cwp - 1) 18 = s.npc ∧
    (∀ h, h ≠ home (s.psr.cwp - 1) 17 → h ≠ home (s.psr.cwp - 1) 18 → readHome t h = readHome s h) ∧
    sameSpecial { s with tt := k } t ∧ sameMemory s t ∧ madeCycles s t [] ∧
    t.pc = trapBase s ++ k ++ 0#4 ∧ t.npc = t.pc + 4 ∧ settled t

/-- Trap `k` is raised from `s`: trap entry with traps enabled, error mode with nothing else changed with traps
disabled (60_exceptions R430, R433), each refused while what it uses is unsettled (43_state_registers R341). -/
def raises (k : BitVec 8) (s : State) (out : Answer) : Prop :=
  let live := s.psrDelay.live
  let refused : Prop := live.et = true ∨ (s.psr.et = true ∧ (live.s = true ∨ live.cwp = true))
  (refused → out = .refused .psrUnsettled) ∧
    (¬ refused → s.psr.et = true → ∃ t, out = .next t ∧ trapped k s t) ∧
    (¬ refused → s.psr.et = false → out = .next { s with mode := .error })

/-- The instruction, unless it uses what is unsettled, raises trap `k` and has done nothing before. -/
def traps (k : BitVec 8) (s : State) (i : Instr) : Prop := ready i s → raises k s (exec i s)

/-! ### Which instructions write icc, which store, and which have completed -/

/-- "The instructions that write icc are exactly" these (10_state R37). -/
def writesIcc : Instr → Bool
  | .addcc _ _ _ | .addxcc _ _ _ | .subcc _ _ _ | .subxcc _ _ _ | .taddcc _ _ _ | .taddcctv _ _ _ | .tsubcc _ _ _
  | .tsubcctv _ _ _ | .mulscc _ _ _ | .andcc _ _ _ | .andncc _ _ _ | .orcc _ _ _ | .orncc _ _ _ | .xorcc _ _ _
  | .xnorcc _ _ _ | .wrpsr _ _ => true
  | _ => false

/-- The instructions that store to memory (20_memory R94). -/
def storing : Instr → Bool
  | .stb _ _ _ | .sth _ _ _ | .st _ _ _ | .std _ _ _ | .stba _ _ _ | .stha _ _ _ | .sta _ _ _ | .stda _ _ _
  | .ldstub _ _ _ | .ldstuba _ _ _ | .stf _ _ _ | .stfsr _ _ _ | .stdf _ _ _ | .stdfq _ _ _ => true
  | _ => false

/-- Trap entry has been made from `s`, whatever the instruction did before its trap (60_exceptions R431). -/
def trapTaken (s t : State) : Prop :=
  trapsEnabled s ∧ t.psr = trapPsr s ∧ readWin t (s.psr.cwp - 1) 17 = s.pc ∧
    readWin t (s.psr.cwp - 1) 18 = s.npc ∧ t.pc = trapBase s ++ t.tt ++ 0#4 ∧ t.npc = t.pc + 4 ∧ settled t

/-- The instruction has completed: it neither trapped nor halted the machine, nor did RESET cut it. -/
def completed (i : Instr) (s t : State) : Prop := exec i s = .next t ∧ t.mode = .execute ∧ ¬ trapTaken s t

/-- The instructions have completed, one after the other. -/
def completedAll : List Instr → State → State → Prop
  | [], s, t => t = s
  | i :: is, s, t => ∃ u, completed i s u ∧ completedAll is u t

end Sys2Proof.Machine
end

