-- ==== Sys2Proof/WellFormed.lean ====
section
/-! DEFINITION. Which terms of `Instr` stand for an encoding of their own. Every operand is a bit field of its
exact width, so one check is left: an opf that has a row of its own is not the general FPop row (30_encoding
R134; 44_fp_and_other R363). An LDD, LDDA, STD or STDA with odd rd is an encoding the decoder reads, so it is
well formed; its meaning refuses it (40_data_transfer R166). -/

namespace Sys2Proof

/-- The opf values of the named instructions with op3 = 0x34 (30_encoding R134). -/
def namedOpf1 : List (BitVec 9) := [0x001, 0x005, 0x009, 0x041, 0x042, 0x045, 0x046, 0x049, 0x04a, 0x04d, 0x04e, 0x0c4, 0x0c5, 0x0c6, 0x0c8, 0x0d1, 0x0d2]

/-- The opf values of the named instructions with op3 = 0x35 (30_encoding R134). -/
def namedOpf2 : List (BitVec 9) := [0x051, 0x052, 0x055, 0x056]

/-- The term is the one the decoder gives for its encoding. -/
def Instr.wellFormed : Instr → Bool
  | .fpop1 _ _ opf _ => !namedOpf1.contains opf
  | .fpop2 _ _ opf _ => !namedOpf2.contains opf
  | _ => true

end Sys2Proof
end

