-- ==== Sys2Proof/Certificates/Slice0/Obligations.lean ====
section
/-! DEFINITION. The statements for the provers. A statement holds inside the delayed-write windows too, for every
instruction that uses nothing of what they leave unsettled (`ready`, 43_state_registers R340). -/

section Statements
open Sys2Proof Sys2Proof.Machine

/-! ### Reset, the invariant, the step -/

/-- 10_state R61, 70_reset_and_hazards R484: the values the spec gives for a reset that follows
power-up, and no delayed-write window pending (R61; log 34). -/
def Obligations.ResetGivenValues : Prop :=
  State.reset.pc = 0 ∧ State.reset.npc = 4 ∧ State.reset.psr.s = true ∧ State.reset.psr.et = false ∧
    State.reset.mode = .execute ∧ settled State.reset ∧ psrWord State.reset.psr >>> 24 = 0 ∧
    wimWord State.reset >>> 7 = 0 ∧ tbrWord State.reset &&& 0xF = 0

/-- The invariant of every step holds right after reset. -/
def Obligations.ResetMeetsInvariant : Prop := Inv State.reset

/-- Every step keeps the invariant: memory canonical, PC and nPC aligned, windows and remembered words bounded. -/
def Obligations.StepKeepsInvariant : Prop := ∀ s t : State, Inv s → step s = .next t → Inv t

/-- A step at a quiet boundary, S not unsettled, runs the instruction the bytes at PC decode to, after the one
transaction of its fetch (20_memory R86; log 39); a device's word runs likewise. -/
def Obligations.StepRunsDecodedInstruction : Prop :=
  ∀ (s : State) (i : Instr), s.mode = .execute → (nextInput s).reset = false →
    acceptsInterrupt (receiveInput s) (nextInput s).irl = false → s.psrDelay.live.s = false →
    let fetched := afterCycles (receiveInput s) [⟨.fetch, fetchAsi s, s.pc, .word, false, false⟩]
    (nextAnswer s = .memory → staleWords s.stale (fetchPlace s) = [] →
      (let m := (receiveInput s).mem
       let p := fetchPlace s
       decodeBytes [m.get p, m.get (p + 1), m.get (p + 2), m.get (p + 3)] = .instr i) →
      step s = exec i fetched) ∧
    (∀ d : Word, nextAnswer s = .device d → decode d = .instr i → step s = exec i fetched)

/-- 60_exceptions R441, R446; 70_reset_and_hazards R481; 50_bus_signals R398; 43_state_registers R341, R342: what a
step does at a boundary in execute mode when no instruction runs: an accepted interrupt enters its trap, but is
refused while S or CWP is unsettled; a fetch is refused while S is; one that gets MEXC raises
instruction_access_exception, one that RESET cuts leads to reset mode, one that is never answered nowhere. -/
def Obligations.StepTakesInterruptOrFetchTrap : Prop :=
  ∀ s : State, s.mode = .execute → (nextInput s).reset = false →
    let fetched := afterCycles (receiveInput s) [⟨.fetch, fetchAsi s, s.pc, .word, false, false⟩]
    let live := s.psrDelay.live
    (acceptsInterrupt (receiveInput s) (nextInput s).irl = true →
      (live.s = false → live.cwp = false →
        ∃ t, step s = .next t ∧ trapped (16 + (nextInput s).irl.zeroExtend 8) (receiveInput s) t) ∧
      (live.s = true ∨ live.cwp = true → step s = .refused .psrUnsettled)) ∧
    (acceptsInterrupt (receiveInput s) (nextInput s).irl = false → live.s = true →
      step s = .refused .psrUnsettled) ∧
    (acceptsInterrupt (receiveInput s) (nextInput s).irl = false → live.s = false →
      (nextAnswer s = .mexc → raises 1 fetched (step s)) ∧
      (nextAnswer s = .reset → step s = .next { fetched with mode := .reset }) ∧
      (nextAnswer s = .held → step s = .fault .heldForever))

/-- 60_exceptions R441, R445; 43_state_registers R342: a level is accepted exactly when ET = 1 and it is 15 or above
PIL, level 0 never; within the window of a WRPSR that changed ET or PIL, by the old or the new of each (log 9), else
by the stored ones. -/
def Obligations.InterruptAcceptance : Prop :=
  ∀ (s : State) (level : BitVec 4),
    let accepts (et : Bool) (pil : BitVec 4) : Prop :=
      acceptsInterrupt s level = true ↔
        et = true ∧ level.toNat ≠ 0 ∧ (level.toNat = 15 ∨ pil.toNat < level.toNat)
    (s.psrDelay.left = 0 → accepts s.psr.et s.psr.pil) ∧
    (s.psrDelay.changed.et = false → s.psrDelay.changed.pil = false → accepts s.psr.et s.psr.pil) ∧
    ∃ et ∈ [s.psr.et, s.psrDelay.oldEt], ∃ pil ∈ [s.psr.pil, s.psrDelay.oldPil], accepts et pil

/-- 70_reset_and_hazards R480; 60_exceptions R433; 10_state R55, R61: RESET asserted leads to reset mode from every
mode; released, to execute mode with S = 1, ET = 0, PC = 0, nPC = 4, nothing else of the IU changed; in error mode
nothing runs and nothing but RESET leads on. The model's choices: the closed windows after release (R61's own
inference, log 34), the fault in error mode (log 20), RESET at a boundary (log 21), the FPU's side across RESET (log
40). -/
def Obligations.ResetAndErrorMode : Prop :=
  ∀ s : State,
    ((nextInput s).reset = true → step s = .next { receiveInput s with mode := .reset }) ∧
    ((nextInput s).reset = false → s.mode = .reset → ∃ t, step s = .next t ∧ t.pc = 0 ∧ t.npc = 4 ∧
      t.psr = { s.psr with s := true, et := false } ∧ sameRegisters s t ∧
      sameSpecial { receiveInput s with mode := .execute } t ∧ sameMemory (receiveInput s) t ∧ settled t) ∧
    ((nextInput s).reset = false → s.mode = .error → step s = .fault .haltedInErrorMode)

/-! ### Encoding -/

/-- Words written out from the spec's encodings, one or more of each family. The encodings of FBNE, UNIMP and IFLUSH
are not in the source and PRESUMED (log 25). -/
def Obligations.DecodeSampleWords : Prop :=
  decode 0x90004002 = .instr (.add 8 1 (.reg 2)) ∧ decode 0x90007FFF = .instr (.add 8 1 (.imm (-1))) ∧
  decode 0x11048D15 = .instr (.sethi 8 0x048D15) ∧ decode 0xD2504002 = .instr (.ldsh 9 1 (.reg 2)) ∧
  decode 0xD0A04402 = .instr (.sta 8 1 (.reg 0x20 2)) ∧ decode 0x12BFFFFE = .instr (.bne false 0x3FFFFE) ∧
  decode 0x40000010 = .instr (.call 0x10) ∧ decode 0x9FC04002 = .instr (.jmpl 15 1 (.reg 2)) ∧
  decode 0x81CCA004 = .instr (.rett 18 (.imm 4)) ∧ decode 0x91D02003 = .instr (.ta 0 (.imm 3)) ∧
  decode 0x91480000 = .instr (.rdpsr 8) ∧ decode 0x81902001 = .instr (.wrwim 0 (.imm 1)) ∧
  decode 0x85A00821 = .instr (.fadds 2 0 1) ∧ decode 0xC5186008 = .instr (.lddf 2 1 (.imm 8)) ∧
  decode 0x03800004 = .instr (.fbne false 4) ∧ decode 0x00000000 = .instr (.unimp 0) ∧
  decode 0x81D86008 = .instr (.iflush 1 (.imm 8))

/-- Every well-formed instruction's word decodes to it, with every operand at every value. -/
def Obligations.DecodeEncodeAgree : Prop := ∀ i : Instr, i.wellFormed = true → decode (encode i) = .instr i

/-- Every instruction the decoder gives is well formed, and its own word decodes to it again. -/
def Obligations.DecodedIsWellFormed : Prop :=
  ∀ (w : Word) (i : Instr), decode w = .instr i → i.wellFormed = true ∧ decode (encode i) = .instr i

/-- 30_encoding R130, R132, R133, R138, R139: the unassigned encodings, exactly, and that they raise
illegal_instruction (log 19; IFLUSH's slot by the PRESUMED encoding of log 25); the SWAP and coprocessor slots,
exactly, and that they are given no behaviour (log 18). -/
def Obligations.UnassignedAndRefusedWords : Prop :=
  (∀ w : Word, decode w = .unassigned ↔
    (fieldOp w = 0 ∧ fieldOp2 w ∈ [1#3, 3#3, 5#3]) ∨
    (fieldOp w = 2 ∧ fieldOp3 w ∈ [0x09#6, 0x0A#6, 0x0B#6, 0x0D#6, 0x0E#6, 0x0F#6, 0x19#6, 0x1A#6, 0x1B#6, 0x1D#6,
      0x1E#6, 0x1F#6, 0x2C#6, 0x2D#6, 0x2E#6, 0x2F#6, 0x3E#6, 0x3F#6]) ∨
    (fieldOp w = 3 ∧ fieldOp3 w ∈ [0x08#6, 0x0B#6, 0x0C#6, 0x0E#6, 0x18#6, 0x1B#6, 0x1C#6, 0x1E#6, 0x22#6, 0x28#6,
      0x29#6, 0x2A#6, 0x2B#6, 0x2C#6, 0x2D#6, 0x2E#6, 0x2F#6, 0x38#6, 0x39#6, 0x3A#6, 0x3B#6, 0x3C#6, 0x3D#6, 0x3E#6,
      0x3F#6])) ∧
  (∀ w : Word, decode w = .swapSlot ↔ fieldOp w = 3 ∧ fieldOp3 w ∈ [0x0F#6, 0x1F#6]) ∧
  (∀ w : Word, decode w = .coprocessorSlot ↔
    (fieldOp w = 0 ∧ fieldOp2 w = 7) ∨ (fieldOp w = 2 ∧ fieldOp3 w ∈ [0x36#6, 0x37#6]) ∨
    (fieldOp w = 3 ∧ 0x30 ≤ (fieldOp3 w).toNat ∧ (fieldOp3 w).toNat ≤ 0x37)) ∧
  ∀ s : State, raises 2 s (runDecoded .unassigned s) ∧ runDecoded .swapSlot s = .refused .swapSlot ∧
    runDecoded .coprocessorSlot s = .refused .coprocessorSlot

/-! ### Memory, address spaces, registers -/

/-- Two memories in canonical form that read alike everywhere are equal as data. -/
def Obligations.MemoryEqualWhenReadsEqual : Prop :=
  ∀ m n : Memory, m.wf = true → n.wf = true → (∀ p, m.get p = n.get p) → m = n

/-- 20_memory R88: a word stored puts its bytes most significant first, and is read back by word, halfword and
byte; every other byte is as before. -/
def Obligations.MemoryWordReadBack : Prop :=
  ∀ (m : Memory) (p : Nat) (v : Word), m.wf = true →
    let m' := m.setBytes p (bytesOfWord v)
    m'.word p = v ∧ m'.half p = v.extractLsb' 16 16 ∧ m'.half (p + 2) = v.extractLsb' 0 16 ∧
    m'.get p = v.extractLsb' 24 8 ∧ m'.get (p + 1) = v.extractLsb' 16 8 ∧ m'.get (p + 2) = v.extractLsb' 8 8 ∧
    m'.get (p + 3) = v.extractLsb' 0 8 ∧ ∀ q, (q < p ∨ p + 4 ≤ q) → m'.get q = m.get q

/-- 10_state R22: r0 reads 0 in every window, and a write to it changes nothing. -/
def Obligations.RegisterZero : Prop :=
  ∀ (s : State) (w : WindowNum) (v : Word), readWin s w 0 = 0 ∧ writeWin s w 0 v = s

/-- 10_state R24: two register numbers in two windows name one register exactly when both are the same global, both
the same register of one window, or one is an in of a window and the other that out of the next. -/
def Obligations.WindowOverlap : Prop :=
  ∀ (w x : WindowNum) (m n : RegNum), home w m = home x n ↔
    (m.toNat < 8 ∧ m = n) ∨ (8 ≤ m.toNat ∧ m = n ∧ w = x) ∨
    (24 ≤ m.toNat ∧ n.toNat + 16 = m.toNat ∧ x = w + 1) ∨ (24 ≤ n.toNat ∧ m.toNat + 16 = n.toNat ∧ w = x + 1)

/-- With no delayed-write window open no instruction is refused for one, and traps go through TBA; S selects the
address space of data and of the fetch (20_memory R82; 43_state_registers R340). -/
def Obligations.SettledSeesRegisters : Prop :=
  ∀ s : State,
    (settled s → (∀ i, ready i s) ∧ trapBase s = s.tba ∧ testEt s = s.psr.et ∧ testPil s = s.psr.pil) ∧
    (s.psr.s = false → dataAsi s = 0x0A ∧ fetchAsi s = 0x08) ∧
    (s.psr.s = true → dataAsi s = 0x0B ∧ fetchAsi s = 0x09)

/-- 43_state_registers R340, R341, R343, R344, R346: an instruction is refused exactly when it uses what a delayed
write has left unsettled: a PSR field changed within the window of a WRPSR, by R341's table; WIM, Y or TBR within the
window of its write. The users are named by the fields of their words; IFLUSH looks at no register (44_fp_and_other
R375). That the refusal comes before the instruction's own checks is log 8. A WRPSR of the value PSR has opens an
empty window. -/
def Obligations.UnsettledUseRefused : Prop :=
  (∀ (s : State) (i : Instr),
    let w := encode i
    let changed (field : PsrFields → Bool) : Prop := s.psrDelay.left ≠ 0 ∧ field s.psrDelay.changed = true
    let op2 (n : BitVec 3) : Prop := fieldOp w = 0 ∧ fieldOp2 w = n
    let op3 (l : List (BitVec 6)) : Prop := fieldOp w = 2 ∧ fieldOp3 w ∈ l
    let call : Prop := fieldOp w = 1
    let loadStore : Prop := fieldOp w = 3
    let floatLoadStore : Prop := loadStore ∧ 0x20#6 ≤ fieldOp3 w ∧ fieldOp3 w ≤ 0x27
    let arithmetic : Prop := fieldOp w = 2 ∧ fieldOp3 w < 0x28
    let namesRd : Prop :=
      op2 4 ∨ arithmetic ∨ op3 [0x28, 0x29, 0x2A, 0x2B, 0x38, 0x3C, 0x3D] ∨ (loadStore ∧ ¬ floatLoadStore)
    let namesRs1 : Prop := arithmetic ∨ op3 [0x30, 0x31, 0x32, 0x33, 0x38, 0x39, 0x3A, 0x3C, 0x3D] ∨ loadStore
    let windowed : Prop :=
      (namesRd ∧ 8 ≤ (fieldRd w).toNat) ∨ (namesRs1 ∧ 8 ≤ (fieldRs1 w).toNat) ∨
        (namesRs1 ∧ fieldI w = false ∧ 8 ≤ (fieldRs2 w).toNat)
    let usesPsr : Prop :=
      (changed (·.icc) ∧ (op2 2 ∨ op3 [0x08, 0x18, 0x0C, 0x1C, 0x24, 0x29, 0x3A])) ∨
      (changed (·.ef) ∧ (op2 6 ∨ op3 [0x29, 0x34, 0x35] ∨ floatLoadStore)) ∨
      (changed (·.s) ∧ (loadStore ∨ op3 [0x29, 0x2A, 0x2B, 0x31, 0x32, 0x33, 0x39])) ∨
      ((changed (·.ps) ∨ changed (·.et)) ∧ op3 [0x29, 0x39]) ∨
      (changed (·.cwp) ∧ (windowed ∨ call ∨ op3 [0x29, 0x39, 0x3C, 0x3D])) ∨
      ((changed (·.reserved) ∨ changed (·.ec) ∨ changed (·.pil)) ∧ op3 [0x29])
    let usesWim : Prop := s.wimDelay ≠ 0 ∧ op3 [0x2A, 0x39, 0x3C, 0x3D]
    let usesY : Prop := s.yDelay ≠ 0 ∧ op3 [0x24, 0x28]
    let usesTbr : Prop := s.tbrDelay.left ≠ 0 ∧ op3 [0x2B]
    (usesPsr → exec i s = .refused .psrUnsettled) ∧
    (¬ usesPsr → usesWim → exec i s = .refused .wimUnsettled) ∧
    (¬ usesPsr → usesY → exec i s = .refused .yUnsettled) ∧
    (¬ usesPsr → usesTbr → exec i s = .refused .tbrUnsettled) ∧
    (¬ usesPsr → ¬ usesWim → ¬ usesY → ¬ usesTbr → ready i s)) ∧
  ∀ (s : State) (rs1 : RegNum) (o : RegImm), ready (.wrpsr rs1 o) s → supervisor s → s.psrDelay.left = 0 →
    (readReg s rs1 ^^^ opValue s o).extractLsb' 0 24 = (psrWord s.psr).extractLsb' 0 24 →
    ∃ t, exec (.wrpsr rs1 o) s = .next t ∧ t.psr = s.psr ∧ t.psrDelay.left = 3 ∧ t.psrDelay.changed = PsrFields.none

/-! ### Arithmetic, logical, shift -/

/-- 41_arith_logic_shift R226, R228, R230, R232: the sum and the difference modulo 2^32 of the exact integers; icc is
not written. SETHI (R275) writes its 22 bits above ten zeros. -/
def Obligations.AddSubtract : Prop :=
  ∀ (s : State) (rd rs1 : RegNum) (o : RegImm) (imm22 : BitVec 22),
    let a := readReg s rs1
    let b := opValue s o
    let c : Nat := if s.psr.icc.c then 1 else 0
    computes s (.add rd rs1 o) rd (BitVec.ofNat 32 (a.toNat + b.toNat)) s.psr ∧
    computes s (.addx rd rs1 o) rd (BitVec.ofNat 32 (a.toNat + b.toNat + c)) s.psr ∧
    computes s (.sub rd rs1 o) rd (BitVec.ofInt 32 (a.toInt - b.toInt)) s.psr ∧
    computes s (.subx rd rs1 o) rd (BitVec.ofInt 32 (a.toInt - b.toInt - c)) s.psr ∧
    computes s (.sethi rd imm22) rd (BitVec.ofNat 32 (imm22.toNat * 1024)) s.psr

/-- 41_arith_logic_shift R222, R223, R227, R229, R231, R233: the result modulo 2^32 and the four flags, from the exact
integers: n the sign of the result, z its being 0, v the exact signed result outside -2^31 .. 2^31 - 1, c the carry
or the borrow. -/
def Obligations.AddSubtractFlags : Prop :=
  ∀ (s : State) (rd rs1 : RegNum) (o : RegImm),
    let a := readReg s rs1
    let b := opValue s o
    let c : Nat := if s.psr.icc.c then 1 else 0
    let sum (cin : Nat) : Word := BitVec.ofNat 32 (a.toNat + b.toNat + cin)
    let sumIcc (cin : Nat) : Icc :=
      { n := decide ((sum cin).toInt < 0)
        z := decide ((sum cin).toNat = 0)
        v := decide (a.toInt + b.toInt + cin < -2 ^ 31 ∨ 2 ^ 31 ≤ a.toInt + b.toInt + cin)
        c := decide (2 ^ 32 ≤ a.toNat + b.toNat + cin) }
    let dif (cin : Nat) : Word := BitVec.ofInt 32 (a.toInt - b.toInt - cin)
    let difIcc (cin : Nat) : Icc :=
      { n := decide ((dif cin).toInt < 0)
        z := decide ((dif cin).toNat = 0)
        v := decide (a.toInt - b.toInt - cin < -2 ^ 31 ∨ 2 ^ 31 ≤ a.toInt - b.toInt - cin)
        c := decide (a.toNat < b.toNat + cin) }
    computes s (.addcc rd rs1 o) rd (sum 0) { s.psr with icc := sumIcc 0 } ∧
    computes s (.addxcc rd rs1 o) rd (sum c) { s.psr with icc := sumIcc c } ∧
    computes s (.subcc rd rs1 o) rd (dif 0) { s.psr with icc := difIcc 0 } ∧
    computes s (.subxcc rd rs1 o) rd (dif c) { s.psr with icc := difIcc c }

/-- 41_arith_logic_shift R252 to R262, the forms without cc: the result bit by bit; the formulas of ANDN, ORN and XNOR
are PRESUMED (log 26). -/
def Obligations.LogicalResults : Prop :=
  ∀ (s : State) (rd rs1 : RegNum) (o : RegImm),
    let bitwise (i : Instr) (f : Bool → Bool → Bool) : Prop :=
      ∃ v : Word, (∀ k : Fin 32, v.getLsbD k = f ((readReg s rs1).getLsbD k) ((opValue s o).getLsbD k)) ∧
        computes s i rd v s.psr
    bitwise (.and rd rs1 o) (fun a b => a && b) ∧
    bitwise (.andn rd rs1 o) (fun a b => a && !b) ∧
    bitwise (.or rd rs1 o) (fun a b => a || b) ∧
    bitwise (.orn rd rs1 o) (fun a b => a || !b) ∧
    bitwise (.xor rd rs1 o) (fun a b => a != b) ∧
    bitwise (.xnor rd rs1 o) (fun a b => a == b)

/-- 41_arith_logic_shift R224: every logical cc instruction sets n to bit 31 of its result, z to its being 0, and
clears v and c; the results are those of R253 to R263, the formulas of ANDNcc, ORNcc and XNORcc PRESUMED (log 26). -/
def Obligations.LogicalFlags : Prop :=
  ∀ (s : State) (rd rs1 : RegNum) (o : RegImm),
    let bitwise (i : Instr) (f : Bool → Bool → Bool) : Prop :=
      ∃ v : Word, (∀ k : Fin 32, v.getLsbD k = f ((readReg s rs1).getLsbD k) ((opValue s o).getLsbD k)) ∧
        computes s i rd v
          { s.psr with icc := { n := v.getLsbD 31, z := decide (v.toNat = 0), v := false, c := false } }
    bitwise (.andcc rd rs1 o) (fun a b => a && b) ∧
    bitwise (.andncc rd rs1 o) (fun a b => a && !b) ∧
    bitwise (.orcc rd rs1 o) (fun a b => a || b) ∧
    bitwise (.orncc rd rs1 o) (fun a b => a || !b) ∧
    bitwise (.xorcc rd rs1 o) (fun a b => a != b) ∧
    bitwise (.xnorcc rd rs1 o) (fun a b => a == b)

/-- 41_arith_logic_shift R265 to R268: the count is op2 modulo 32; SLL multiplies, SRL divides the unsigned value,
SRA takes the floor of the signed value by a power of two; icc is not written. -/
def Obligations.ShiftResults : Prop :=
  ∀ (s : State) (rd rs1 : RegNum) (o : RegImm),
    let a := readReg s rs1
    let k := (opValue s o).toNat % 32
    computes s (.sll rd rs1 o) rd (BitVec.ofNat 32 (a.toNat * 2 ^ k)) s.psr ∧
    computes s (.srl rd rs1 o) rd (BitVec.ofNat 32 (a.toNat / 2 ^ k)) s.psr ∧
    computes s (.sra rd rs1 o) rd (BitVec.ofInt 32 (a.toInt / 2 ^ k)) s.psr

/-- 41_arith_logic_shift R240 to R242, R461: TADDcc and TSUBcc give the plain result and never trap; v is set by a
nonzero tag, bits 1:0, of either operand or by signed overflow. -/
def Obligations.TaggedFlags : Prop :=
  ∀ (s : State) (rd rs1 : RegNum) (o : RegImm),
    let a := readReg s rs1
    let b := opValue s o
    let tag : Prop := a.toNat % 4 ≠ 0 ∨ b.toNat % 4 ≠ 0
    (∃ icc : Icc, computes s (.taddcc rd rs1 o) rd (a + b) { s.psr with icc := icc } ∧
      icc.n = (a + b).getLsbD 31 ∧ (icc.z = true ↔ a + b = 0) ∧ (icc.c = true ↔ 2 ^ 32 ≤ a.toNat + b.toNat) ∧
      (icc.v = true ↔ tag ∨ a.toInt + b.toInt < -2 ^ 31 ∨ 2 ^ 31 ≤ a.toInt + b.toInt)) ∧
    (∃ icc : Icc, computes s (.tsubcc rd rs1 o) rd (a - b) { s.psr with icc := icc } ∧
      icc.n = (a - b).getLsbD 31 ∧ (icc.z = true ↔ a = b) ∧ (icc.c = true ↔ a.toNat < b.toNat) ∧
      (icc.v = true ↔ tag ∨ a.toInt - b.toInt < -2 ^ 31 ∨ 2 ^ 31 ≤ a.toInt - b.toInt))

/-- 60_exceptions R461; 41_arith_logic_shift R243, R244: with a nonzero tag or a signed overflow the TV forms raise
tag_overflow and write neither rd nor icc; else they complete as ADDcc and SUBcc with v = 0. -/
def Obligations.TaggedTrapForms : Prop :=
  ∀ (s : State) (rd rs1 : RegNum) (o : RegImm),
    let a := readReg s rs1
    let b := opValue s o
    let tag : Prop := a.toNat % 4 ≠ 0 ∨ b.toNat % 4 ≠ 0
    let addOver : Prop := tag ∨ a.toInt + b.toInt < -2 ^ 31 ∨ 2 ^ 31 ≤ a.toInt + b.toInt
    let subOver : Prop := tag ∨ a.toInt - b.toInt < -2 ^ 31 ∨ 2 ^ 31 ≤ a.toInt - b.toInt
    (¬ addOver → computes s (.taddcctv rd rs1 o) rd (a + b) { s.psr with icc :=
      { n := (a + b).getLsbD 31, z := decide (a + b = 0), v := false, c := decide (2 ^ 32 ≤ a.toNat + b.toNat) } }) ∧
    (addOver → traps 10 s (.taddcctv rd rs1 o)) ∧
    (¬ subOver → computes s (.tsubcctv rd rs1 o) rd (a - b) { s.psr with icc :=
      { n := (a - b).getLsbD 31, z := decide (a = b), v := false, c := decide (a.toNat < b.toNat) } }) ∧
    (subOver → traps 10 s (.tsubcctv rd rs1 o))

/-- 41_arith_logic_shift R250: MULScc. The signed partial product n xor v, r[rs1] is halved, the multiplicand is added
when Y is odd, and the bit shifted out of r[rs1] enters Y at the top. -/
def Obligations.MultiplyStep : Prop :=
  ∀ (s : State) (rd rs1 : RegNum) (o : RegImm),
    let a := readReg s rs1
    let y := s.y
    let t := a.toNat / 2 + if s.psr.icc.n = s.psr.icc.v then 0 else 2 ^ 31
    let m : Word := if y.toNat % 2 = 1 then opValue s o else 0
    let r : Word := BitVec.ofNat 32 (t + m.toNat)
    let exact := (BitVec.ofNat 32 t).toInt + m.toInt
    let y' : Word := BitVec.ofNat 32 (y.toNat / 2 + a.toNat % 2 * 2 ^ 31)
    ready (.mulscc rd rs1 o) s → ∃ u, exec (.mulscc rd rs1 o) s = .next u ∧ goesOn s u ∧ madeCycles s u [] ∧
      writesOnly { s with y := y' } u (destination s rd) r { s.psr with icc :=
        { n := r.getLsbD 31, z := decide (r = 0), v := decide (exact < -2 ^ 31 ∨ 2 ^ 31 ≤ exact),
          c := decide (2 ^ 32 ≤ t + m.toNat) } }

/-- 41_arith_logic_shift R270, R272, R273: into a window that is not marked invalid, SAVE moves one window down and
RESTORE one up, modulo 7; the sum of operands read through the old window goes to r[rd] of the new one. -/
def Obligations.SaveRestoreMove : Prop :=
  ∀ (s : State) (rd rs1 : RegNum) (o : RegImm),
    let w := curWindow s
    let v := readReg s rs1 + opValue s o
    (s.wim.getLsbD (w - 1 : WindowNum).val = false → ready (.save rd rs1 o) s →
      ∃ t, exec (.save rd rs1 o) s = .next t ∧ goesOn s t ∧ madeCycles s t [] ∧
        writesOnly s t (home (w - 1) rd) v { s.psr with cwp := w - 1 }) ∧
    (s.wim.getLsbD (w + 1 : WindowNum).val = false → ready (.restore rd rs1 o) s →
      ∃ t, exec (.restore rd rs1 o) s = .next t ∧ goesOn s t ∧ madeCycles s t [] ∧
        writesOnly s t (home (w + 1) rd) v { s.psr with cwp := w + 1 })

/-- 60_exceptions R449, R450: into a window marked invalid SAVE raises window_overflow and RESTORE window_underflow,
CWP unchanged by them; with traps enabled the handler of a SAVE runs in the invalid window itself; RETT with ET = 0
makes RESTORE's test, and fails with tt 6 in error mode, nothing else changed (42_control_transfer R310; log 20). -/
def Obligations.InvalidWindowTraps : Prop :=
  ∀ (s : State) (rd rs1 : RegNum) (o : RegImm),
    let w := curWindow s
    (s.wim.getLsbD (w - 1 : WindowNum).val = true → traps 5 s (.save rd rs1 o) ∧
      (ready (.save rd rs1 o) s → s.psrDelay.left = 0 → trapsEnabled s →
        ∃ t, exec (.save rd rs1 o) s = .next t ∧ t.psr.cwp = w - 1)) ∧
    (s.wim.getLsbD (w + 1 : WindowNum).val = true → traps 6 s (.restore rd rs1 o) ∧
      (ready (.rett rs1 o) s → s.psr.et = false → supervisor s →
        exec (.rett rs1 o) s = .next { s with tt := 6, mode := .error }))

/-! ### Loads and stores -/

/-- 40_data_transfer R162, R163, R170 to R174, R176 to R180; 20_memory R84, R88: an aligned load from plain memory
writes the big-endian datum, sign- or zero-extended, in one read of its width (50_bus_signals R395; log 39); the
alternate forms, in supervisor mode, do the same in the address space they name. -/
def Obligations.LoadResults : Prop :=
  ∀ (s : State) (rd rs1 rs2 : RegNum) (o : RegImm) (asi : Asi), memoryAnswers s 1 →
    let reads (sb ub sh uh w : Instr) (asi : Asi) (ea : Word) : Prop :=
      let b (k : Word) : Byte := byteAt s asi (ea + k)
      let read (size : BusSize) : List BusCycle := [⟨.read, asi, ea, size, false, false⟩]
      loads s sb rd (BitVec.ofInt 32 (b 0).toInt) (read .byte) ∧
      loads s ub rd (BitVec.ofNat 32 (b 0).toNat) (read .byte) ∧
      (ea.toNat % 2 = 0 → loads s sh rd (BitVec.ofInt 32 (b 0 ++ b 1).toInt) (read .half) ∧
        loads s uh rd (BitVec.ofNat 32 (b 0 ++ b 1).toNat) (read .half)) ∧
      (ea.toNat % 4 = 0 → loads s w rd (b 0 ++ b 1 ++ b 2 ++ b 3) (read .word))
    reads (.ldsb rd rs1 o) (.ldub rd rs1 o) (.ldsh rd rs1 o) (.lduh rd rs1 o) (.ld rd rs1 o) (dataAsi s)
      (readReg s rs1 + opValue s o) ∧
    (supervisor s → reads (.ldsba rd rs1 (.reg asi rs2)) (.lduba rd rs1 (.reg asi rs2))
      (.ldsha rd rs1 (.reg asi rs2)) (.lduha rd rs1 (.reg asi rs2)) (.lda rd rs1 (.reg asi rs2)) asi
      (readReg s rs1 + readReg s rs2))

/-- 40_data_transfer R175, R181: LDD and LDDA with even rd at a doubleword address write the word at ea to r[rd] and
the word at ea + 4 to r[rd + 1], in two reads of SIZE 3 with LOCK during the second (20_memory R95); with rd = 0 only
r[1] is written. The pair is PRESUMED (R166; log 26), the order of the
two reads log 15. -/
def Obligations.DoubleLoadResults : Prop :=
  ∀ (s : State) (rd rs1 rs2 : RegNum) (o : RegImm) (asi : Asi), memoryAnswers s 2 → rd.toNat % 2 = 0 →
    let pair (i : Instr) (asi : Asi) (ea : Word) : Prop :=
      let b (k : Word) : Byte := byteAt s asi (ea + k)
      ready i s → ∃ t, exec i s = .next t ∧ goesOn s t ∧ t.psr = s.psr ∧ sameSpecial s t ∧ sameMemory s t ∧
        madeCycles s t [⟨.read, asi, ea, .double, false, false⟩, ⟨.read, asi, ea + 4, .double, true, false⟩] ∧
        (rd ≠ 0 → readWin t (curWindow s) rd = b 0 ++ b 1 ++ b 2 ++ b 3) ∧
        readWin t (curWindow s) (rd + 1) = b 4 ++ b 5 ++ b 6 ++ b 7 ∧
        ∀ h, h ≠ destination s rd → h ≠ destination s (rd + 1) → readHome t h = readHome s h
    ((readReg s rs1 + opValue s o).toNat % 8 = 0 →
      pair (.ldd rd rs1 o) (dataAsi s) (readReg s rs1 + opValue s o)) ∧
    (supervisor s → (readReg s rs1 + readReg s rs2).toNat % 8 = 0 →
      pair (.ldda rd rs1 (.reg asi rs2)) asi (readReg s rs1 + readReg s rs2))

/-- 40_data_transfer R162, R164, R182 to R184, R186 to R188; 20_memory R85: an aligned store to plain memory writes
the low-order bits of r[rd] (PRESUMED of a byte and a halfword, R164; log 26), most significant byte first, and no
other byte, in one write of its width (50_bus_signals R395, R396; log 39); the alternate forms, in supervisor mode, do
the same in the address space they name. -/
def Obligations.StoreResults : Prop :=
  ∀ (s : State) (rd rs1 rs2 : RegNum) (o : RegImm) (asi : Asi), s.mem.wf = true → memoryAnswers s 1 →
    let v := readReg s rd
    let writes (b h w : Instr) (asi : Asi) (ea : Word) : Prop :=
      let write (datum : Nat) (size : BusSize) : List BusCycle :=
        [⟨.write (BitVec.ofNat 32 datum), asi, ea, size, true, false⟩]
      stores s s b (placeOf s asi ea) [v.extractLsb' 0 8] (write (v.toNat % 2 ^ 8) .byte) ∧
      (ea.toNat % 2 = 0 → stores s s h (placeOf s asi ea) [v.extractLsb' 8 8, v.extractLsb' 0 8]
        (write (v.toNat % 2 ^ 16) .half)) ∧
      (ea.toNat % 4 = 0 → stores s s w (placeOf s asi ea)
        [v.extractLsb' 24 8, v.extractLsb' 16 8, v.extractLsb' 8 8, v.extractLsb' 0 8] (write v.toNat .word))
    writes (.stb rd rs1 o) (.sth rd rs1 o) (.st rd rs1 o) (dataAsi s) (readReg s rs1 + opValue s o) ∧
    (supervisor s → writes (.stba rd rs1 (.reg asi rs2)) (.stha rd rs1 (.reg asi rs2)) (.sta rd rs1 (.reg asi rs2))
      asi (readReg s rs1 + readReg s rs2))

/-- 40_data_transfer R185, R189: STD and STDA with even rd at a doubleword address store r[rd] at ea and r[rd + 1] at
ea + 4. The pair is PRESUMED (R166; log 26), the order of the two writes log 15. -/
def Obligations.DoubleStoreResults : Prop :=
  ∀ (s : State) (rd rs1 rs2 : RegNum) (o : RegImm) (asi : Asi), s.mem.wf = true → memoryAnswers s 2 →
    rd.toNat % 2 = 0 →
    let hi := readReg s rd
    let lo := readReg s (rd + 1)
    let bytes : List Byte := [hi.extractLsb' 24 8, hi.extractLsb' 16 8, hi.extractLsb' 8 8, hi.extractLsb' 0 8,
      lo.extractLsb' 24 8, lo.extractLsb' 16 8, lo.extractLsb' 8 8, lo.extractLsb' 0 8]
    let writes (asi : Asi) (ea : Word) : List BusCycle :=
      [⟨.write hi, asi, ea, .double, true, false⟩, ⟨.write lo, asi, ea + 4, .double, true, false⟩]
    let ea := readReg s rs1 + opValue s o
    let ea' := readReg s rs1 + readReg s rs2
    (ea.toNat % 8 = 0 →
      stores s s (.std rd rs1 o) (placeOf s (dataAsi s) ea) bytes (writes (dataAsi s) ea)) ∧
    (supervisor s → ea'.toNat % 8 = 0 →
      stores s s (.stda rd rs1 (.reg asi rs2)) (placeOf s asi ea') bytes (writes asi ea'))

/-- 40_data_transfer R190, R191: LDSTUB and LDSTUBA write the byte, zero-extended, to r[rd] and set it to all ones, at
any address, in a read and a write with LOCK and LDST asserted (50_bus_signals R396; log 39). -/
def Obligations.AtomicLoadStore : Prop :=
  ∀ (s : State) (rd rs1 rs2 : RegNum) (o : RegImm) (asi : Asi), s.mem.wf = true → memoryAnswers s 2 →
    let swaps (i : Instr) (asi : Asi) (ea : Word) : Prop :=
      ready i s → ∃ t, exec i s = .next t ∧ goesOn s t ∧ t.psr = s.psr ∧ sameSpecial s t ∧
        onlyRegister s t (destination s rd) (BitVec.ofNat 32 (byteAt s asi ea).toNat) ∧
        storesBytes s t (placeOf s asi ea) [0xFF] ∧
        madeCycles s t [⟨.read, asi, ea, .byte, true, true⟩, ⟨.write 0xFF, asi, ea, .byte, true, true⟩]
    swaps (.ldstub rd rs1 o) (dataAsi s) (readReg s rs1 + opValue s o) ∧
    (supervisor s → swaps (.ldstuba rd rs1 (.reg asi rs2)) asi (readReg s rs1 + readReg s rs2))

/-- 20_memory R91: an effective address that is no multiple of the width raises mem_address_not_aligned before any
access: nothing is read, written or answered. -/
def Obligations.MisalignedAccess : Prop :=
  ∀ (s : State) (rd rs1 rs2 : RegNum) (o : RegImm) (asi : Asi),
    let ea := readReg s rs1 + opValue s o
    let ea' := readReg s rs1 + readReg s rs2
    (ea.toNat % 2 ≠ 0 → ∀ i ∈ [Instr.ldsh rd rs1 o, .lduh rd rs1 o, .sth rd rs1 o], traps 7 s i) ∧
    (ea.toNat % 4 ≠ 0 → ∀ i ∈ [Instr.ld rd rs1 o, .st rd rs1 o, .jmpl rd rs1 o], traps 7 s i) ∧
    (ea.toNat % 8 ≠ 0 → rd.toNat % 2 = 0 → ∀ i ∈ [Instr.ldd rd rs1 o, .std rd rs1 o], traps 7 s i) ∧
    (supervisor s →
      (ea'.toNat % 2 ≠ 0 → ∀ i ∈ [Instr.ldsha rd rs1 (.reg asi rs2), .lduha rd rs1 (.reg asi rs2),
        .stha rd rs1 (.reg asi rs2)], traps 7 s i) ∧
      (ea'.toNat % 4 ≠ 0 → ∀ i ∈ [Instr.lda rd rs1 (.reg asi rs2), .sta rd rs1 (.reg asi rs2)],
        traps 7 s i) ∧
      (ea'.toNat % 8 ≠ 0 → rd.toNat % 2 = 0 → ∀ i ∈ [Instr.ldda rd rs1 (.reg asi rs2), .stda rd rs1 (.reg asi rs2)],
        traps 7 s i))

/-- 40_data_transfer R166: LDD and STD, and in supervisor mode LDDA and STDA, with odd rd are given no behaviour
(log 17). -/
def Obligations.OddPairRefused : Prop :=
  ∀ (s : State) (rd rs1 rs2 : RegNum) (o : RegImm) (asi : Asi), rd.toNat % 2 = 1 →
    (∀ i ∈ [Instr.ldd rd rs1 o, .std rd rs1 o], ready i s → exec i s = .refused .oddDoublewordRegister) ∧
    (supervisor s → ∀ i ∈ [Instr.ldda rd rs1 (.reg asi rs2), .stda rd rs1 (.reg asi rs2)],
      ready i s → exec i s = .refused .oddDoublewordRegister)

/-- 20_memory R107, R108; 40_data_transfer R161; 70_reset_and_hazards R481; 50_bus_signals R398, of every load, store
and atomic load-store, the alternate forms in supervisor mode. MEXC on the first access raises data_access_exception
with nothing else changed; RESET cuts the instruction and leaves nothing of it; without an answer it leads nowhere. On
the second access the first access's effect may be there or not (log 15), but for an LDD cut by RESET, of which
nothing is (log 21); LDSTUB leaves memory unchanged. -/
def Obligations.DataAccessExceptions : Prop :=
  ∀ (s : State) (rd rs1 rs2 : RegNum) (o : RegImm) (space : Asi),
    let v := readReg s rd
    let first (i : Instr) (c : BusCycle) : Prop := ready i s →
      (nextAnswer s = .mexc → raises 9 (afterCycles s [c]) (exec i s)) ∧
      (nextAnswer s = .reset → exec i s = .next { afterCycles s [c] with mode := .reset }) ∧
      (nextAnswer s = .held → exec i s = .fault .heldForever)
    let second (i : Instr) (c d : BusCycle) (half cut : State → State) : Prop :=
      let s2 := afterCycles s [c, d]
      ready i s → nextAnswer s = .memory →
      (s.bus[1]? = some .mexc → raises 9 s2 (exec i s) ∨ raises 9 (half s2) (exec i s)) ∧
      (s.bus[1]? = some .reset →
        exec i s = .next { s2 with mode := .reset } ∨ exec i s = .next { cut s2 with mode := .reset }) ∧
      (s.bus[1]? = some .held → exec i s = .fault .heldForever)
    let single (sb ub stb sh uh sth w st : Instr) (asi : Asi) (ea : Word) : Prop :=
      let read (size : BusSize) : BusCycle := ⟨.read, asi, ea, size, false, false⟩
      let write (datum : Nat) (size : BusSize) : BusCycle := ⟨.write (BitVec.ofNat 32 datum), asi, ea, size, true, false⟩
      (∀ i ∈ [sb, ub], first i (read .byte)) ∧ first stb (write (v.toNat % 2 ^ 8) .byte) ∧
      (ea.toNat % 2 = 0 → (∀ i ∈ [sh, uh], first i (read .half)) ∧ first sth (write (v.toNat % 2 ^ 16) .half)) ∧
      (ea.toNat % 4 = 0 → first w (read .word) ∧ first st (write v.toNat .word))
    let double (ldd std ldstub : Instr) (asi : Asi) (ea : Word) : Prop :=
      let read (a : Word) (lock : Bool) : BusCycle := ⟨.read, asi, a, .double, lock, false⟩
      let write (a datum : Word) : BusCycle := ⟨.write datum, asi, a, .double, true, false⟩
      let atomic (kind : BusKind) : BusCycle := ⟨kind, asi, ea, .byte, true, true⟩
      let loaded (datum : Word) (u : State) : State := writeWin u (curWindow s) rd datum
      let stored (u : State) : State := writePlace u (placeOf s asi ea) .word v
      let byte : Word := BitVec.ofNat 32 (byteAt s asi ea).toNat
      first ldstub (atomic .read) ∧
      second ldstub (atomic .read) (atomic (.write 0xFF)) (loaded byte) (loaded byte) ∧
      (ea.toNat % 8 = 0 → rd.toNat % 2 = 0 →
        first ldd (read ea false) ∧
        second ldd (read ea false) (read (ea + 4) true) (loaded (s.mem.word (placeOf s asi ea))) id ∧
        first std (write ea v) ∧
        second std (write ea v) (write (ea + 4) (readReg s (rd + 1))) stored stored)
    let ea := readReg s rs1 + opValue s o
    let ea' := readReg s rs1 + readReg s rs2
    let alt : AltOperand := .reg space rs2
    single (.ldsb rd rs1 o) (.ldub rd rs1 o) (.stb rd rs1 o) (.ldsh rd rs1 o) (.lduh rd rs1 o) (.sth rd rs1 o)
      (.ld rd rs1 o) (.st rd rs1 o) (dataAsi s) ea ∧
    double (.ldd rd rs1 o) (.std rd rs1 o) (.ldstub rd rs1 o) (dataAsi s) ea ∧
    (supervisor s →
      single (.ldsba rd rs1 alt) (.lduba rd rs1 alt) (.stba rd rs1 alt) (.ldsha rd rs1 alt) (.lduha rd rs1 alt)
        (.stha rd rs1 alt) (.lda rd rs1 alt) (.sta rd rs1 alt) space ea' ∧
      double (.ldda rd rs1 alt) (.stda rd rs1 alt) (.ldstuba rd rs1 alt) space ea')

/-- 20_memory R104: every completed instruction brings each remembered word one nearer its end, and only a store adds
one, with four instructions left; after a store into a word, a fetch of it gives what it held before or holds now
until four more instructions have completed, then what it holds now. An instruction that traps completes nothing (log
14). -/
def Obligations.StoredCodeOldOrNew : Prop :=
  (∀ (i : Instr) (s t : State), completed i s t → ∀ w ∈ t.stale,
    (storing i = true ∧ w.left = 4) ∨ ∃ w' ∈ s.stale, w'.place = w.place ∧ w'.old = w.old ∧ w'.left = w.left + 1) ∧
  ∀ (s t u : State) (rd rs1 rs2 : RegNum) (o : RegImm) (space : Asi) (is : List Instr),
    (∀ j ∈ is, storing j = false) → completedAll is t u →
    let fetches (i : Instr) (asi : Asi) (ea : Word) : Prop :=
      let p := wordPlace (placeOf s asi ea)
      completed i s t → staleWords s.stale p = [] →
        (fetchedWord u p = s.mem.word p ∨ fetchedWord u p = t.mem.word p) ∧
        (4 ≤ is.length → fetchedWord u p = t.mem.word p)
    let ea := readReg s rs1 + opValue s o
    let ea' := readReg s rs1 + readReg s rs2
    let alt : AltOperand := .reg space rs2
    (∀ i ∈ [Instr.stb rd rs1 o, .sth rd rs1 o, .st rd rs1 o, .std rd rs1 o, .ldstub rd rs1 o],
      fetches i (dataAsi s) ea) ∧
    fetches (.std rd rs1 o) (dataAsi s) (ea + 4) ∧
    (∀ i ∈ [Instr.stba rd rs1 alt, .stha rd rs1 alt, .sta rd rs1 alt, .stda rd rs1 alt, .ldstuba rd rs1 alt],
      fetches i space ea') ∧
    fetches (.stda rd rs1 alt) space (ea' + 4)

/-! ### Control transfer -/

/-- 42_control_transfer R292 to R295: the sixteen Bicc: the condition on n, z, v, c, the target relative to the
branch, the delay instruction annulled as the table says; nothing but PC and nPC is written. -/
def Obligations.IntegerBranches : Prop :=
  ∀ (s : State) (a : Bool) (d : BitVec 22),
    let target : Word := s.pc + BitVec.ofInt 32 (4 * d.toInt)
    let f := s.psr.icc
    let branch (i : Instr) (taken : Bool) : Prop :=
      (taken = true → transfers s s i s.npc target) ∧
      (taken = false → a = false → transfers s s i s.npc (s.npc + 4)) ∧
      (taken = false → a = true → transfers s s i (s.npc + 4) (s.npc + 8))
    (a = false → transfers s s (.ba a d) s.npc target) ∧
    (a = true → transfers s s (.ba a d) target (target + 4)) ∧
    branch (.bn a d) false ∧ branch (.bne a d) (!f.z) ∧ branch (.be a d) f.z ∧
    branch (.bg a d) (!(f.z || (f.n != f.v))) ∧ branch (.ble a d) (f.z || (f.n != f.v)) ∧
    branch (.bge a d) (f.n == f.v) ∧ branch (.bl a d) (f.n != f.v) ∧
    branch (.bgu a d) (!f.c && !f.z) ∧ branch (.bleu a d) (f.c || f.z) ∧
    branch (.bcc a d) (!f.c) ∧ branch (.bcs a d) f.c ∧ branch (.bpos a d) (!f.n) ∧ branch (.bneg a d) f.n ∧
    branch (.bvc a d) (!f.v) ∧ branch (.bvs a d) f.v

/-- 42_control_transfer R295: on the flags of a SUBcc of a and b, the signed and unsigned conditions compare a with b,
even where the subtraction overflows. -/
def Obligations.ConditionsCompare : Prop :=
  ∀ a b : Word,
    let f := (subFlags a b false).2
    (evalIcc .equal f = true ↔ a = b) ∧ (evalIcc .notEqual f = true ↔ a ≠ b) ∧
    (evalIcc .greater f = true ↔ b.toInt < a.toInt) ∧ (evalIcc .lessOrEqual f = true ↔ a.toInt ≤ b.toInt) ∧
    (evalIcc .greaterOrEqual f = true ↔ b.toInt ≤ a.toInt) ∧ (evalIcc .less f = true ↔ a.toInt < b.toInt) ∧
    (evalIcc .greaterUnsigned f = true ↔ b.toNat < a.toNat) ∧
    (evalIcc .lessOrEqualUnsigned f = true ↔ a.toNat ≤ b.toNat) ∧
    (evalIcc .carryClear f = true ↔ b.toNat ≤ a.toNat) ∧ (evalIcc .carrySet f = true ↔ a.toNat < b.toNat)

/-- 42_control_transfer R296, R300: CALL writes its own address to r15 and JMPL, to an aligned target, to r[rd]; both
transfer after one delay instruction. A completed instruction leaves the mark that a RETT asks for exactly when it is
a JMPL (R311). -/
def Obligations.CallAndJump : Prop :=
  ∀ (s : State) (rd rs1 : RegNum) (o : RegImm) (disp30 : BitVec 30),
    (ready (.call disp30) s → ∃ t, exec (.call disp30) s = .next t ∧ t.pc = s.npc ∧
      t.npc = s.pc + BitVec.ofNat 32 (4 * disp30.toNat) ∧ writesOnly s t (home (curWindow s) 15) s.pc s.psr ∧
      madeCycles s t []) ∧
    ((readReg s rs1 + opValue s o).toNat % 4 = 0 → ready (.jmpl rd rs1 o) s →
      ∃ t, exec (.jmpl rd rs1 o) s = .next t ∧ t.pc = s.npc ∧ t.npc = readReg s rs1 + opValue s o ∧
        writesOnly s t (destination s rd) s.pc s.psr ∧ madeCycles s t []) ∧
    ∀ (i : Instr) (t : State), completed i s t → (t.afterJmpl = true ↔ ∃ rd rs1 o, i = .jmpl rd rs1 o)

/-- 42_control_transfer R302, R303: the sixteen Ticc: when the condition holds, trap 128 plus the low seven bits of
the sum, with no delay instruction; else nothing but the PC's advance. -/
def Obligations.TrapOnCondition : Prop :=
  ∀ (s : State) (rs1 : RegNum) (o : RegImm),
    let tt : BitVec 8 := BitVec.ofNat 8 (128 + (readReg s rs1 + opValue s o).toNat % 128)
    let f := s.psr.icc
    let trap (i : Instr) (taken : Bool) : Prop :=
      (taken = true → traps tt s i) ∧
      (taken = false → transfers s s i s.npc (s.npc + 4))
    trap (.ta rs1 o) true ∧ trap (.tn rs1 o) false ∧ trap (.tne rs1 o) (!f.z) ∧ trap (.te rs1 o) f.z ∧
    trap (.tg rs1 o) (!(f.z || (f.n != f.v))) ∧ trap (.tle rs1 o) (f.z || (f.n != f.v)) ∧
    trap (.tge rs1 o) (f.n == f.v) ∧ trap (.tl rs1 o) (f.n != f.v) ∧
    trap (.tgu rs1 o) (!f.c && !f.z) ∧ trap (.tleu rs1 o) (f.c || f.z) ∧
    trap (.tcc rs1 o) (!f.c) ∧ trap (.tcs rs1 o) f.c ∧ trap (.tpos rs1 o) (!f.n) ∧ trap (.tneg rs1 o) f.n ∧
    trap (.tvc rs1 o) (!f.v) ∧ trap (.tvs rs1 o) f.v

/-- 42_control_transfer R305, R311: RETT in supervisor mode with ET = 0, the window up not invalid and the target
aligned. After a JMPL: one window up, S from PS, ET = 1, the delayed transfer, and nothing else, and the next fetch is
in the space PS implied. After any other instruction it is refused (D25; the order of the refusal and the checks is
log 13). -/
def Obligations.ReturnFromTrap : Prop :=
  ∀ (s : State) (rs1 : RegNum) (o : RegImm), ready (.rett rs1 o) s → s.psr.et = false → supervisor s →
    s.wim.getLsbD (curWindow s + 1 : WindowNum).val = false → (readReg s rs1 + opValue s o).toNat % 4 = 0 →
    (s.afterJmpl = true →
      ∃ t, exec (.rett rs1 o) s = .next t ∧ t.pc = s.npc ∧ t.npc = readReg s rs1 + opValue s o ∧ madeCycles s t [] ∧
        writesOnly s t .zero 0 { s.psr with cwp := curWindow s + 1, s := s.psr.ps, et := true } ∧
        fetchAsi t = if s.psr.ps then 0x09 else 0x08) ∧
    (s.afterJmpl = false → exec (.rett rs1 o) s = .refused .returnWithoutJmpl)

/-- 42_control_transfer R308, R310: RETT with ET = 1 raises illegal_instruction in either mode; with ET = 0 the first
failed check, in the order user mode, window up invalid, target misaligned, writes tt 3, 6 or 7 and halts, and no
other state changes (the spec's own reading, log 20). -/
def Obligations.ReturnFromTrapFails : Prop :=
  ∀ (s : State) (rs1 : RegNum) (o : RegImm),
    let invalid := s.wim.getLsbD (curWindow s + 1 : WindowNum).val
    (s.psr.et = true → traps 2 s (.rett rs1 o)) ∧
    (ready (.rett rs1 o) s → s.psr.et = false →
      (s.psr.s = false → exec (.rett rs1 o) s = .next { s with tt := 3, mode := .error }) ∧
      (supervisor s → invalid = true → exec (.rett rs1 o) s = .next { s with tt := 6, mode := .error }) ∧
      (supervisor s → invalid = false → (readReg s rs1 + opValue s o).toNat % 4 ≠ 0 →
        exec (.rett rs1 o) s = .next { s with tt := 7, mode := .error }))

/-- 60_exceptions R431, R435; 42_control_transfer R305, R311: a trap from a settled state, then JMPL to r17 and RETT
to r18 in its window, gives back PC, nPC, CWP, S, ET and the space of the next fetch. -/
def Obligations.TrapAndReturn : Prop :=
  ∀ (s t u v : State) (k : BitVec 8), settled s → s.psr.et = true → s.wim.getLsbD s.psr.cwp.val = false →
    s.pc.toNat % 4 = 0 → s.npc.toNat % 4 = 0 → t = trapEntry k s →
    exec (.jmpl 0 17 (.reg 0)) t = .next u → exec (.rett 18 (.reg 0)) u = .next v →
    v.pc = s.pc ∧ v.npc = s.npc ∧ v.psr.cwp = s.psr.cwp ∧ v.psr.s = s.psr.s ∧ v.psr.et = true ∧
      fetchAsi v = fetchAsi s

/-! ### State registers and their delayed writes -/

/-- 43_state_registers R332 to R335: the reads; RDPSR's bits 19:14 are not said (log 16). Within the window of a write
of its register a read is refused (`ready`, R346; Obligations.UnsettledUseRefused). -/
def Obligations.StateRegisterReads : Prop :=
  ∀ (s : State) (rd : RegNum),
    computes s (.rdy rd) rd s.y s.psr ∧
    (supervisor s →
      computes s (.rdwim rd) rd (BitVec.ofNat 32 s.wim.toNat) s.psr ∧
      computes s (.rdtbr rd) rd (BitVec.ofNat 32 (s.tba.toNat * 4096 + s.tt.toNat * 16)) s.psr ∧
      ∃ v : Word, computes s (.rdpsr rd) rd v s.psr ∧
        v.extractLsb' 24 8 = 0 ∧ v.getLsbD 23 = s.psr.icc.n ∧ v.getLsbD 22 = s.psr.icc.z ∧
        v.getLsbD 21 = s.psr.icc.v ∧ v.getLsbD 20 = s.psr.icc.c ∧ v.getLsbD 13 = s.psr.ec ∧
        v.getLsbD 12 = s.psr.ef ∧ v.extractLsb' 8 4 = s.psr.pil ∧ v.getLsbD 7 = s.psr.s ∧
        v.getLsbD 6 = s.psr.ps ∧ v.getLsbD 5 = s.psr.et ∧ v.toNat % 32 = s.psr.cwp.val)

/-- 43_state_registers R336 to R339, R340: the writes: the exclusive or of the operands, of which WIM takes bits 6:0,
TBR bits 31:12, PSR all but bits 31:24; the register's window is open for three instructions, and nothing else is
written. A PSR window holds the fields in which PSR differs and those of a window still open, and the ET and PIL from
before the first write. -/
def Obligations.StateRegisterWrites : Prop :=
  ∀ (s : State) (rs1 : RegNum) (o : RegImm),
    let v := readReg s rs1 ^^^ opValue s o
    let changes (t : State) (field : PsrFields → Bool) (same : Prop) : Prop :=
      field t.psrDelay.changed = true ↔ ¬ same ∨ (s.psrDelay.left ≠ 0 ∧ field s.psrDelay.changed = true)
    (ready (.wry rs1 o) s → ∃ t, exec (.wry rs1 o) s = .next t ∧ goesOn s t ∧
      writesOnly { s with y := v } t .zero 0 s.psr ∧ t.yDelay = 3 ∧ madeCycles s t []) ∧
    (supervisor s →
      (ready (.wrwim rs1 o) s → ∃ t, exec (.wrwim rs1 o) s = .next t ∧ goesOn s t ∧
        writesOnly { s with wim := BitVec.ofNat 7 v.toNat } t .zero 0 s.psr ∧ t.wimDelay = 3 ∧ madeCycles s t []) ∧
      (ready (.wrtbr rs1 o) s → ∃ t, exec (.wrtbr rs1 o) s = .next t ∧ goesOn s t ∧
        writesOnly { s with tba := BitVec.ofNat 20 (v.toNat / 4096) } t .zero 0 s.psr ∧
        t.tbrDelay.left = 3 ∧ t.tbrDelay.oldTba = s.tba ∧ madeCycles s t []) ∧
      (v.toNat % 32 < 7 → ready (.wrpsr rs1 o) s →
        ∃ t, exec (.wrpsr rs1 o) s = .next t ∧ goesOn s t ∧ writesOnly s t .zero 0 t.psr ∧
        t.psrDelay.left = 3 ∧ madeCycles s t [] ∧ t.psr.cwp.val = v.toNat % 32 ∧
        t.psr.icc = ⟨v.getLsbD 23, v.getLsbD 22, v.getLsbD 21, v.getLsbD 20⟩ ∧
        t.psr.reserved = v.extractLsb' 14 6 ∧ t.psr.ec = v.getLsbD 13 ∧ t.psr.ef = v.getLsbD 12 ∧
        t.psr.pil = v.extractLsb' 8 4 ∧ t.psr.s = v.getLsbD 7 ∧ t.psr.ps = v.getLsbD 6 ∧ t.psr.et = v.getLsbD 5 ∧
        changes t (·.icc) (t.psr.icc = s.psr.icc) ∧ changes t (·.reserved) (t.psr.reserved = s.psr.reserved) ∧
        changes t (·.ec) (t.psr.ec = s.psr.ec) ∧ changes t (·.ef) (t.psr.ef = s.psr.ef) ∧
        changes t (·.pil) (t.psr.pil = s.psr.pil) ∧ changes t (·.s) (t.psr.s = s.psr.s) ∧
        changes t (·.ps) (t.psr.ps = s.psr.ps) ∧ changes t (·.et) (t.psr.et = s.psr.et) ∧
        changes t (·.cwp) (t.psr.cwp = s.psr.cwp) ∧
        (s.psrDelay.left = 0 → t.psrDelay.oldEt = s.psr.et ∧ t.psrDelay.oldPil = s.psr.pil) ∧
        (s.psrDelay.left ≠ 0 → t.psrDelay.oldEt = s.psrDelay.oldEt ∧ t.psrDelay.oldPil = s.psrDelay.oldPil)))

/-- 43_state_registers R345: a trap within the window of a WRTBR goes through the old or the new TBA, and TBR holds
the new TBA with the new tt. -/
def Obligations.TrapBaseOldOrNew : Prop :=
  ∀ (k : Trap) (s t : State), s.tbrDelay.left ≠ 0 → trapsEnabled s → raise k s = .next t →
    (t.pc = s.tbrDelay.oldTba ++ trapType k ++ 0#4 ∨ t.pc = s.tba ++ trapType k ++ 0#4) ∧ t.npc = t.pc + 4 ∧
    tbrWord t = s.tba ++ trapType k ++ 0#4

/-- 43_state_registers R347: trap entry closes every window, so the first handler instruction reads what was written
last. -/
def Obligations.TrapClosesWindows : Prop :=
  ∀ (k : BitVec 8) (s : State) (rd : RegNum), rd ≠ 0 →
    let t := trapEntry k s
    settled t ∧ ∃ u v w : State, exec (.rdy rd) t = .next u ∧ readWin u t.psr.cwp rd = s.y ∧
      exec (.rdwim rd) t = .next v ∧ readWin v t.psr.cwp rd = BitVec.ofNat 32 s.wim.toNat ∧
      exec (.rdtbr rd) t = .next w ∧ readWin w t.psr.cwp rd = s.tba ++ k ++ 0#4

/-- 43_state_registers R340: every instruction but the writes of the register itself brings each open window one
instruction nearer its end, unless it halts the machine or is cut by RESET. -/
def Obligations.WindowsRunOut : Prop :=
  ∀ (i : Instr) (s t : State), s.mode = .execute → exec i s = .next t → t.mode = .execute →
    ((∀ rs1 o, i ≠ .wrpsr rs1 o) → t.psrDelay.left ≤ s.psrDelay.left - 1) ∧
    ((∀ rs1 o, i ≠ .wrwim rs1 o) → t.wimDelay ≤ s.wimDelay - 1) ∧
    ((∀ rs1 o, i ≠ .wrtbr rs1 o) → t.tbrDelay.left ≤ s.tbrDelay.left - 1) ∧
    ((∀ rs1 o, i ≠ .wry rs1 o) → t.yDelay ≤ s.yDelay - 1)

/-! ### Traps and privilege -/

/-- 60_exceptions R421, R463: the trap type numbers. -/
def Obligations.TrapTypeNumbers : Prop :=
  trapType .instructionAccessException = 1 ∧ trapType .illegalInstruction = 2 ∧
  trapType .privilegedInstruction = 3 ∧ trapType .fpDisabled = 4 ∧ trapType .windowOverflow = 5 ∧
  trapType .windowUnderflow = 6 ∧ trapType .memAddressNotAligned = 7 ∧ trapType .fpException = 8 ∧
  trapType .dataAccessException = 9 ∧ trapType .tagOverflow = 10 ∧
  (∀ n : BitVec 7, (trapType (.trapInstruction n)).toNat = 128 + n.toNat) ∧
  ∀ l : BitVec 4, (trapType (.interrupt l)).toNat = 16 + l.toNat

/-- 60_exceptions R430, R431, R433: raising any trap: with traps enabled its entry, after which the handler is fetched
from supervisor space; with traps disabled error mode with nothing else changed (the spec's own decision, log 20).
Inside a WRPSR window that changed ET, or S or CWP where a trap would be entered, it is refused (43_state_registers
R341). -/
def Obligations.TrapEntryContents : Prop :=
  ∀ (k : Trap) (s : State), raises (trapType k) s (raise k s) ∧
    (trapsEnabled s → ∀ t, raise k s = .next t → fetchAsi t = 0x09)

/-- 60_exceptions R447: the instructions that raise illegal_instruction, before any privilege check: UNIMP, IFLUSH
with TC low, the alternate-space forms with i = 1, WRPSR of an unimplemented window, RETT with ET = 1. With TC high
IFLUSH is a NOP, whatever its address (44_fp_and_other R375). Alternate forms: log 27. -/
def Obligations.IllegalForms : Prop :=
  ∀ (s : State) (rd rs1 : RegNum) (o : RegImm) (v : BitVec 13) (c : BitVec 22),
    traps 2 s (.unimp c) ∧
    (s.tc = true → transfers s s (.iflush rs1 o) s.npc (s.npc + 4)) ∧
    (s.tc = false → traps 2 s (.iflush rs1 o)) ∧
    (∀ i ∈ [Instr.ldsba rd rs1 (.imm v), .ldsha rd rs1 (.imm v), .lduba rd rs1 (.imm v), .lduha rd rs1 (.imm v),
      .lda rd rs1 (.imm v), .ldda rd rs1 (.imm v), .stba rd rs1 (.imm v), .stha rd rs1 (.imm v), .sta rd rs1 (.imm v),
      .stda rd rs1 (.imm v), .ldstuba rd rs1 (.imm v)], traps 2 s i) ∧
    (7 ≤ (readReg s rs1 ^^^ opValue s o).toNat % 32 → traps 2 s (.wrpsr rs1 o)) ∧
    (s.psr.et = true → traps 2 s (.rett rs1 o))

/-- 60_exceptions R452; 43_state_registers R330: every privileged instruction in user mode raises
privileged_instruction and does nothing else; WRPSR's check of its window comes before, and so does RETT's of ET. -/
def Obligations.PrivilegedForms : Prop :=
  ∀ (s : State) (rd rs1 rs2 : RegNum) (o : RegImm) (asi : Asi), s.psr.s = false →
    (∀ i ∈ [Instr.ldsba rd rs1 (.reg asi rs2), .ldsha rd rs1 (.reg asi rs2), .lduba rd rs1 (.reg asi rs2),
      .lduha rd rs1 (.reg asi rs2), .lda rd rs1 (.reg asi rs2), .ldda rd rs1 (.reg asi rs2),
      .stba rd rs1 (.reg asi rs2), .stha rd rs1 (.reg asi rs2), .sta rd rs1 (.reg asi rs2),
      .stda rd rs1 (.reg asi rs2), .ldstuba rd rs1 (.reg asi rs2), .rdpsr rd, .rdwim rd, .rdtbr rd,
      .wrwim rs1 o, .wrtbr rs1 o], traps 3 s i) ∧
    ((readReg s rs1 ^^^ opValue s o).toNat % 32 < 7 → traps 3 s (.wrpsr rs1 o))

/-- 10_state R42, R46; 60_exceptions R452: in user mode no instruction changes S, PS, EF, EC,
PIL, WIM or TBA, nor a byte outside the user data space; only a trap leads out, to supervisor mode with traps off. -/
def Obligations.UserModeConfined : Prop :=
  ∀ (i : Instr) (s t : State), s.psr.s = false → exec i s = .next t →
    t.wim = s.wim ∧ t.tba = s.tba ∧ t.psr.pil = s.psr.pil ∧ t.psr.ef = s.psr.ef ∧ t.psr.ec = s.psr.ec ∧
    ((t.psr.s = false ∧ t.psr.ps = s.psr.ps ∧ t.psr.et = s.psr.et) ∨
      (s.psr.et = true ∧ t.psr.s = true ∧ t.psr.ps = false ∧ t.psr.et = false ∧
        t.pc.extractLsb' 4 8 = t.tt ∧ t.npc = t.pc + 4)) ∧
    ∀ p, (∀ a : Word, p ≠ placeOf s 0x0A a) → t.mem.get p = s.mem.get p

/-- 10_state R37, R46: the writers of each PSR field among the instructions: icc those that R37 lists; reserved, EC,
EF and PIL WRPSR only; PS also trap entry; S and ET also trap entry and RETT; CWP also trap entry, RETT, SAVE and
RESTORE. -/
def Obligations.PsrWriters : Prop :=
  ∀ (i : Instr) (s t : State), exec i s = .next t → (∀ rs1 o, i ≠ .wrpsr rs1 o) →
    (writesIcc i = false → t.psr.icc = s.psr.icc) ∧
    t.psr.reserved = s.psr.reserved ∧ t.psr.ec = s.psr.ec ∧ t.psr.ef = s.psr.ef ∧ t.psr.pil = s.psr.pil ∧
    (trapTaken s t ∨
      (t.psr.ps = s.psr.ps ∧
        ((∀ rs1 o, i ≠ .rett rs1 o) → t.psr.s = s.psr.s ∧ t.psr.et = s.psr.et ∧
          ((∀ rd rs1 o, i ≠ .save rd rs1 o ∧ i ≠ .restore rd rs1 o) → t.psr.cwp = s.psr.cwp))))

/-- 10_state R47, R49, R52; 60_exceptions R431: WIM is written by WRWIM only, TBA by WRTBR only, Y by WRY and MULScc
only, tt by a trap and by a failing RETT only. -/
def Obligations.SpecialRegisterWriters : Prop :=
  ∀ (i : Instr) (s t : State), exec i s = .next t →
    ((∀ rs1 o, i ≠ .wrwim rs1 o) → t.wim = s.wim) ∧
    ((∀ rs1 o, i ≠ .wrtbr rs1 o) → t.tba = s.tba) ∧
    ((∀ rs1 o, i ≠ .wry rs1 o) → (∀ rd rs1 o, i ≠ .mulscc rd rs1 o) → t.y = s.y) ∧
    (t.tt = s.tt ∨ trapTaken s t ∨ (∃ rs1 o, i = .rett rs1 o ∧ t.mode = .error))

/-! ### Floating point interface -/

/-- 44_fp_and_other R363: every floating point operate instruction, of any opf, sends its word and its address to the
FPU and goes on; nothing of the IU changes. -/
def Obligations.FloatOperate : Prop :=
  ∀ (s : State) (rd rs1 rs2 : RegNum) (opf : BitVec 9), fpuReady s →
    let sends (i : Instr) (op3 : BitVec 6) (opf : BitVec 9) : Prop :=
      transfers s { s with fpuOut := s.fpuOut ++ [.op (2#2 ++ rd ++ op3 ++ rs1 ++ opf ++ rs2) s.pc] } i
        s.npc (s.npc + 4)
    sends (.fmovs rd rs1 rs2) 0x34 0x001 ∧ sends (.fnegs rd rs1 rs2) 0x34 0x005 ∧
    sends (.fabs rd rs1 rs2) 0x34 0x009 ∧ sends (.fadds rd rs1 rs2) 0x34 0x041 ∧
    sends (.faddd rd rs1 rs2) 0x34 0x042 ∧ sends (.fsubs rd rs1 rs2) 0x34 0x045 ∧
    sends (.fsubd rd rs1 rs2) 0x34 0x046 ∧ sends (.fmuls rd rs1 rs2) 0x34 0x049 ∧
    sends (.fmuld rd rs1 rs2) 0x34 0x04A ∧ sends (.fdivs rd rs1 rs2) 0x34 0x04D ∧
    sends (.fdivd rd rs1 rs2) 0x34 0x04E ∧ sends (.fitos rd rs1 rs2) 0x34 0x0C4 ∧
    sends (.fstod rd rs1 rs2) 0x34 0x0C5 ∧ sends (.fdtos rd rs1 rs2) 0x34 0x0C6 ∧
    sends (.fitod rd rs1 rs2) 0x34 0x0C8 ∧ sends (.fstoi rd rs1 rs2) 0x34 0x0D1 ∧
    sends (.fdtoi rd rs1 rs2) 0x34 0x0D2 ∧ sends (.fcmps rd rs1 rs2) 0x35 0x051 ∧
    sends (.fcmpd rd rs1 rs2) 0x35 0x052 ∧ sends (.fcmpes rd rs1 rs2) 0x35 0x055 ∧
    sends (.fcmped rd rs1 rs2) 0x35 0x056 ∧ sends (.fpop1 rd rs1 opf rs2) 0x34 opf ∧
    sends (.fpop2 rd rs1 opf rs2) 0x35 opf

/-- 44_fp_and_other R360, R368: the sixteen FBfcc (their table PRESUMED, log 25) branch on FCC as Bicc does on icc. -/
def Obligations.FloatBranches : Prop :=
  ∀ (s : State) (a : Bool) (d : BitVec 22), fpuReady s →
    let target : Word := s.pc + BitVec.ofInt 32 (4 * d.toInt)
    let branch (i : Instr) (takenOn : List Nat) : Prop :=
      (s.fcc.toNat ∈ takenOn → transfers s s i s.npc target) ∧
      (s.fcc.toNat ∉ takenOn → a = false → transfers s s i s.npc (s.npc + 4)) ∧
      (s.fcc.toNat ∉ takenOn → a = true → transfers s s i (s.npc + 4) (s.npc + 8))
    (a = false → transfers s s (.fba a d) s.npc target) ∧
    (a = true → transfers s s (.fba a d) target (target + 4)) ∧
    branch (.fbn a d) [] ∧ branch (.fbu a d) [3] ∧ branch (.fbg a d) [2] ∧ branch (.fbug a d) [2, 3] ∧
    branch (.fbl a d) [1] ∧ branch (.fbul a d) [1, 3] ∧ branch (.fblg a d) [1, 2] ∧ branch (.fbne a d) [1, 2, 3] ∧
    branch (.fbe a d) [0] ∧ branch (.fbue a d) [0, 3] ∧ branch (.fbge a d) [0, 2] ∧ branch (.fbuge a d) [0, 2, 3] ∧
    branch (.fble a d) [0, 1] ∧ branch (.fbule a d) [0, 1, 3] ∧ branch (.fbo a d) [0, 1, 2]

/-- 44_fp_and_other R365 to R367, R370: an aligned floating point load sends its word, its address and the words read
from the data space to the FPU, in one read of a word or two of a doubleword, LOCK during the second (50_bus_signals
R395, R396; 20_memory R95; log 39); no IU register changes. -/
def Obligations.FloatLoads : Prop :=
  ∀ (s : State) (rd rs1 : RegNum) (a : FpOperand), fpuReady s →
    let ea := readReg s rs1 + fpOpValue s a
    let b (k : Word) : Byte := byteAt s (dataAsi s) (ea + k)
    let hi : Word := b 0 ++ b 1 ++ b 2 ++ b 3
    let lo : Word := b 4 ++ b 5 ++ b 6 ++ b 7
    let one : List BusCycle := [⟨.read, dataAsi s, ea, .word, false, false⟩]
    let two : List BusCycle :=
      [⟨.read, dataAsi s, ea, .double, false, false⟩, ⟨.read, dataAsi s, ea + 4, .double, true, false⟩]
    let sends (i : Instr) (op3 : BitVec 6) (ws : List Word) (cycles : List BusCycle) : Prop :=
      ready i s → ∃ t, exec i s = .next t ∧ goesOn s t ∧ madeCycles s t cycles ∧
        writesOnly { s with fpuOut := s.fpuOut ++
          (.loadStore (3#2 ++ rd ++ op3 ++ rs1 ++ tailFp a) s.pc :: ws.map .data) } t .zero 0 s.psr
    (memoryAnswers s 1 → ea.toNat % 4 = 0 →
      sends (.ldf rd rs1 a) 0x20 [hi] one ∧ sends (.ldfsr rd rs1 a) 0x21 [hi] one) ∧
    (memoryAnswers s 2 → ea.toNat % 8 = 0 → sends (.lddf rd rs1 a) 0x23 [hi, lo] two)

/-- 44_fp_and_other R365, R371 to R373, R376: an aligned floating point store sends its word and address to the FPU
and stores words of the FPU's, of which nothing is said (log 7), as the bus shows them (50_bus_signals R395, R396; log
39); no IU register and no other byte changes. -/
def Obligations.FloatStores : Prop :=
  ∀ (s : State) (rd rs1 : RegNum) (a : FpOperand), s.mem.wf = true → fpuReady s →
    let ea := readReg s rs1 + fpOpValue s a
    let p := placeOf s (dataAsi s) ea
    let sent (op3 : BitVec 6) : State :=
      { s with fpuOut := s.fpuOut ++ [.loadStore (3#2 ++ rd ++ op3 ++ rs1 ++ tailFp a) s.pc] }
    let bytes (v : Word) : List Byte := [v.extractLsb' 24 8, v.extractLsb' 16 8, v.extractLsb' 8 8, v.extractLsb' 0 8]
    let write (v b : Word) (size : BusSize) : BusCycle := ⟨.write v, dataAsi s, b, size, true, false⟩
    let one (i : Instr) (op3 : BitVec 6) : Prop :=
      ∃ v : Word, stores s (sent op3) i p (bytes v) [write v ea .word]
    let two (i : Instr) (op3 : BitVec 6) : Prop :=
      ∃ v w : Word, stores s (sent op3) i p (bytes v ++ bytes w) [write v ea .double, write w (ea + 4) .double]
    (memoryAnswers s 1 → ea.toNat % 4 = 0 → one (.stf rd rs1 a) 0x24 ∧ one (.stfsr rd rs1 a) 0x25) ∧
    (memoryAnswers s 2 → ea.toNat % 8 = 0 → two (.stdf rd rs1 a) 0x27 ∧ two (.stdfq rd rs1 a) 0x26)

/-- 44_fp_and_other R361, R362, R364; 20_memory R107, R108: the checks of the floating point instructions in their
order: fp_disabled, misalignment, the FPU's pending exception, which a trap clears (log 33), MEXC. After MEXC FLUSH
follows what was handed over (50_bus_signals R404's own inference; where it leads to error mode the model's choice;
log 30), and on a second write the first may be there or not (log 15). -/
def Obligations.FloatChecks : Prop :=
  ∀ (s : State) (rd rs1 rs2 : RegNum) (a : FpOperand) (annul : Bool) (d : BitVec 22) (opf : BitVec 9),
    let ea := readReg s rs1 + fpOpValue s a
    let asi := dataAsi s
    let words := [Instr.ldf rd rs1 a, .ldfsr rd rs1 a, .stf rd rs1 a, .stfsr rd rs1 a]
    let pairs := [Instr.lddf rd rs1 a, .stdf rd rs1 a, .stdfq rd rs1 a]
    let others := [Instr.fmovs rd rs1 rs2, .fnegs rd rs1 rs2, .fabs rd rs1 rs2, .fadds rd rs1 rs2, .faddd rd rs1 rs2,
      .fsubs rd rs1 rs2, .fsubd rd rs1 rs2, .fmuls rd rs1 rs2, .fmuld rd rs1 rs2, .fdivs rd rs1 rs2, .fdivd rd rs1 rs2,
      .fitos rd rs1 rs2, .fstod rd rs1 rs2, .fdtos rd rs1 rs2, .fitod rd rs1 rs2, .fstoi rd rs1 rs2, .fdtoi rd rs1 rs2,
      .fcmps rd rs1 rs2, .fcmpd rd rs1 rs2, .fcmpes rd rs1 rs2, .fcmped rd rs1 rs2, .fpop1 rd rs1 opf rs2,
      .fpop2 rd rs1 opf rs2, .fba annul d, .fbn annul d, .fbu annul d, .fbg annul d, .fbug annul d, .fbl annul d,
      .fbul annul d, .fblg annul d, .fbne annul d, .fbe annul d, .fbue annul d, .fbge annul d, .fbuge annul d,
      .fble annul d, .fbule annul d, .fbo annul d]
    let pending (i : Instr) : Prop :=
      ready i s →
        (trapsEnabled s → raises 8 { s with fexc := false, fpuOut := s.fpuOut ++ [.fxack] } (exec i s)) ∧
        (s.psr.et = false → raises 8 s (exec i s))
    let flushed (i : Instr) (data : List FpuEvent) (cycles : List BusCycle) : State :=
      afterCycles { s with fpuOut := s.fpuOut ++ (.loadStore (encode i) s.pc :: data ++ [.flush]) } cycles
    let read (b : Word) (size : BusSize) (lock : Bool) : BusCycle := ⟨.read, asi, b, size, lock, false⟩
    let write (v b : Word) (size : BusSize) : BusCycle := ⟨.write v, asi, b, size, true, false⟩
    ((s.psr.ef = false ∨ s.fpuPresent = false) → ∀ i ∈ words ++ pairs ++ others, traps 4 s i) ∧
    (s.psr.ef = true → s.fpuPresent = true →
      (ea.toNat % 4 ≠ 0 → ∀ i ∈ words, traps 7 s i) ∧
      (ea.toNat % 8 ≠ 0 → ∀ i ∈ pairs, traps 7 s i) ∧
      (s.fexc = true → (∀ i ∈ others, pending i) ∧ (ea.toNat % 4 = 0 → ∀ i ∈ words, pending i) ∧
        (ea.toNat % 8 = 0 → ∀ i ∈ pairs, pending i)) ∧
      (s.fexc = false → nextAnswer s = .mexc →
        (ea.toNat % 4 = 0 →
          (∀ i ∈ [Instr.ldf rd rs1 a, .ldfsr rd rs1 a],
            ready i s → raises 9 (flushed i [] [read ea .word false]) (exec i s)) ∧
          (∀ i ∈ [Instr.stf rd rs1 a, .stfsr rd rs1 a],
            ∃ v, ready i s → raises 9 (flushed i [] [write v ea .word]) (exec i s))) ∧
        (ea.toNat % 8 = 0 →
          (ready (.lddf rd rs1 a) s →
            raises 9 (flushed (.lddf rd rs1 a) [] [read ea .double false]) (exec (.lddf rd rs1 a) s)) ∧
          (∀ i ∈ [Instr.stdf rd rs1 a, .stdfq rd rs1 a],
            ∃ v, ready i s → raises 9 (flushed i [] [write v ea .double]) (exec i s)))) ∧
      (s.fexc = false → nextAnswer s = .memory → s.bus[1]? = some .mexc → ea.toNat % 8 = 0 →
        (ready (.lddf rd rs1 a) s →
          raises 9 (flushed (.lddf rd rs1 a) [.data (s.mem.word (placeOf s asi ea))]
            [read ea .double false, read (ea + 4) .double true]) (exec (.lddf rd rs1 a) s)) ∧
        (∀ i ∈ [Instr.stdf rd rs1 a, .stdfq rd rs1 a], ∃ v w : Word,
          let t := flushed i [] [write v ea .double, write w (ea + 4) .double]
          ready i s →
            raises 9 t (exec i s) ∨ raises 9 (writePlace t (placeOf s asi ea) .word v) (exec i s))))

end Statements
end

