-- ==== Sys2Proof/Laws/Encoding.lean ====
section
/-! SUPPORT. What each field of a format's word is, and what is left of it under the opcode table's masks. -/

namespace Sys2Proof

@[simp] theorem fieldOp_fmt1 (d : BitVec 30) : fieldOp (fmt1 d) = 1#2 := by
  ext i hi; simp [fieldOp, fmt1]; grind
@[simp] theorem fieldDisp30_fmt1 (d : BitVec 30) : fieldDisp30 (fmt1 d) = d := by
  ext i hi; simp [fieldDisp30, fmt1]; grind

section Format2a
variable (rd : RegNum) (op2 : BitVec 3) (imm22 : BitVec 22)
@[simp] theorem fieldOp_fmt2a : fieldOp (fmt2a rd op2 imm22) = 0#2 := by
  ext i hi; simp [fieldOp, fmt2a]; grind
@[simp] theorem fieldRd_fmt2a : fieldRd (fmt2a rd op2 imm22) = rd := by
  ext i hi; simp [fieldRd, fmt2a]; grind
@[simp] theorem fieldOp2_fmt2a : fieldOp2 (fmt2a rd op2 imm22) = op2 := by
  ext i hi; simp [fieldOp2, fmt2a]; grind
@[simp] theorem fieldLow22_fmt2a : fieldLow22 (fmt2a rd op2 imm22) = imm22 := by
  ext i hi; simp [fieldLow22, fmt2a]; grind
end Format2a

section Format2b
variable (a : Bool) (cond : BitVec 4) (op2 : BitVec 3) (disp22 : BitVec 22)
@[simp] theorem fieldOp_fmt2b : fieldOp (fmt2b a cond op2 disp22) = 0#2 := by
  ext i hi; simp [fieldOp, fmt2b]; grind
@[simp] theorem fieldA_fmt2b : fieldA (fmt2b a cond op2 disp22) = a := by
  simp [fieldA, fmt2b]; grind
@[simp] theorem fieldCond_fmt2b : fieldCond (fmt2b a cond op2 disp22) = cond := by
  ext i hi; simp [fieldCond, fmt2b]; grind
@[simp] theorem fieldOp2_fmt2b : fieldOp2 (fmt2b a cond op2 disp22) = op2 := by
  ext i hi; simp [fieldOp2, fmt2b]; grind
@[simp] theorem fieldLow22_fmt2b : fieldLow22 (fmt2b a cond op2 disp22) = disp22 := by
  ext i hi; simp [fieldLow22, fmt2b]; grind
end Format2b

section Format3
variable (op : BitVec 2) (rd : RegNum) (op3 : BitVec 6) (rs1 : RegNum) (tail : BitVec 14)
@[simp] theorem fieldOp_fmt3 : fieldOp (fmt3 op rd op3 rs1 tail) = op := by
  ext i hi; simp [fieldOp, fmt3]; grind
@[simp] theorem fieldRd_fmt3 : fieldRd (fmt3 op rd op3 rs1 tail) = rd := by
  ext i hi; simp [fieldRd, fmt3]; grind
@[simp] theorem fieldCond_fmt3 : fieldCond (fmt3 op rd op3 rs1 tail) = rd.extractLsb' 0 4 := by
  ext i hi; simp [fieldCond, fmt3]; grind
@[simp] theorem fieldOp3_fmt3 : fieldOp3 (fmt3 op rd op3 rs1 tail) = op3 := by
  ext i hi; simp [fieldOp3, fmt3]; grind
@[simp] theorem fieldRs1_fmt3 : fieldRs1 (fmt3 op rd op3 rs1 tail) = rs1 := by
  ext i hi; simp [fieldRs1, fmt3]; grind
@[simp] theorem fieldI_fmt3 : fieldI (fmt3 op rd op3 rs1 tail) = tail.getLsbD 13 := by
  simp [fieldI, fmt3]; grind
@[simp] theorem fieldAsi_fmt3 : fieldAsi (fmt3 op rd op3 rs1 tail) = tail.extractLsb' 5 8 := by
  ext i hi; simp [fieldAsi, fmt3]; grind
@[simp] theorem fieldOpf_fmt3 : fieldOpf (fmt3 op rd op3 rs1 tail) = tail.extractLsb' 5 9 := by
  ext i hi; simp [fieldOpf, fmt3]; grind
@[simp] theorem fieldRs2_fmt3 : fieldRs2 (fmt3 op rd op3 rs1 tail) = tail.extractLsb' 0 5 := by
  ext i hi; simp [fieldRs2, fmt3]; grind
@[simp] theorem fieldSimm13_fmt3 : fieldSimm13 (fmt3 op rd op3 rs1 tail) = tail.extractLsb' 0 13 := by
  ext i hi; simp [fieldSimm13, fmt3]; grind

@[simp] theorem fieldRegImm_fmt3 (o : RegImm) : fieldRegImm (fmt3 op rd op3 rs1 (tailRegImm o)) = o := by
  cases o with
  | reg rs2 =>
    have h : (tailRegImm (.reg rs2)).extractLsb' 0 5 = rs2 := by
      ext i hi; simp [tailRegImm]; grind
    simp [fieldRegImm, h]; simp [tailRegImm]; try grind
  | imm v =>
    have h : (tailRegImm (.imm v)).extractLsb' 0 13 = v := by
      ext i hi; simp [tailRegImm]; grind
    simp [fieldRegImm, h]; simp [tailRegImm]; try grind

@[simp] theorem fieldAlt_fmt3 (a : AltOperand) : fieldAlt (fmt3 op rd op3 rs1 (tailAlt a)) = a := by
  cases a with
  | reg asi rs2 =>
    have h : (tailAlt (.reg asi rs2)).extractLsb' 0 5 = rs2 := by
      ext i hi; simp [tailAlt]; grind
    have h' : (tailAlt (.reg asi rs2)).extractLsb' 5 8 = asi := by
      ext i hi; simp [tailAlt]; grind
    simp [fieldAlt, h, h']; simp [tailAlt]; try grind
  | imm v =>
    have h : (tailAlt (.imm v)).extractLsb' 0 13 = v := by
      ext i hi; simp [tailAlt]; grind
    simp [fieldAlt, h]; simp [tailAlt]; try grind

@[simp] theorem fieldFp_fmt3 (a : FpOperand) : fieldFp (fmt3 op rd op3 rs1 (tailFp a)) = a := by
  cases a with
  | reg x rs2 =>
    have h : (tailFp (.reg x rs2)).extractLsb' 0 5 = rs2 := by
      ext i hi; simp [tailFp]; grind
    have h' : (tailFp (.reg x rs2)).extractLsb' 5 8 = x := by
      ext i hi; simp [tailFp]; grind
    simp [fieldFp, h, h']; simp [tailFp]; try grind
  | imm v =>
    have h : (tailFp (.imm v)).extractLsb' 0 13 = v := by
      ext i hi; simp [tailFp]; grind
    simp [fieldFp, h]; simp [tailFp]; try grind
end Format3

@[simp] theorem extract_opf_tail (opf : BitVec 9) (rs2 : RegNum) : (opf ++ rs2).extractLsb' 5 9 = opf := by
  ext i hi; simp; grind
@[simp] theorem extract_rs2_tail (opf : BitVec 9) (rs2 : RegNum) : (opf ++ rs2).extractLsb' 0 5 = rs2 := by
  ext i hi; simp; grind

/-- The bytes of a word, put together again (20_memory R88). -/
theorem wordOfBytes_bytes (v : Word) :
    wordOfBytes (byteOfWord v 0) (byteOfWord v 1) (byteOfWord v 2) (byteOfWord v 3) = v := by
  ext i hi; simp [wordOfBytes, byteOfWord]; grind

/-! ### What is left under a mask of the opcode table -/

/-- A masked word, bit by bit. -/
theorem mask_eq (w mask res : Word) (h : ∀ i : Fin 32, (w.getLsbD i && mask.getLsbD i) = res.getLsbD i) :
    w &&& mask = res := by
  apply BitVec.eq_of_getLsbD_eq; intro i hi; simpa using h ⟨i, hi⟩

theorem fmt1_bit (d : BitVec 30) (i : Nat) :
    (fmt1 d).getLsbD i = if i < 30 then d.getLsbD i else (1#2).getLsbD (i - 30) := by
  have h : (fmt1 d).getLsbD i = BitVec.getLsbD (1#2 ++ d) i := rfl
  rw [h]; simp only [BitVec.getLsbD_append]

theorem fmt2a_bit (rd : RegNum) (op2 : BitVec 3) (imm22 : BitVec 22) (i : Nat) :
    (fmt2a rd op2 imm22).getLsbD i =
      if i < 22 then imm22.getLsbD i else if i < 25 then op2.getLsbD (i - 22)
      else if i < 30 then rd.getLsbD (i - 25) else false := by
  have h : (fmt2a rd op2 imm22).getLsbD i = BitVec.getLsbD (0#2 ++ rd ++ op2 ++ imm22) i := rfl
  rw [h]; simp only [BitVec.getLsbD_append, Nat.sub_sub]; grind

theorem fmt2b_bit (a : Bool) (cond : BitVec 4) (op2 : BitVec 3) (disp22 : BitVec 22) (i : Nat) :
    (fmt2b a cond op2 disp22).getLsbD i =
      if i < 22 then disp22.getLsbD i else if i < 25 then op2.getLsbD (i - 22)
      else if i < 29 then cond.getLsbD (i - 25) else i == 29 && a := by
  have h : (fmt2b a cond op2 disp22).getLsbD i =
    BitVec.getLsbD (0#2 ++ BitVec.ofBool a ++ cond ++ op2 ++ disp22) i := rfl
  rw [h]; simp only [BitVec.getLsbD_append, Nat.sub_sub, BitVec.getLsbD_ofBool]; grind

theorem fmt3_bit (op : BitVec 2) (rd : RegNum) (op3 : BitVec 6) (rs1 : RegNum) (tail : BitVec 14) (i : Nat) :
    (fmt3 op rd op3 rs1 tail).getLsbD i =
      if i < 14 then tail.getLsbD i else if i < 19 then rs1.getLsbD (i - 14)
      else if i < 25 then op3.getLsbD (i - 19) else if i < 30 then rd.getLsbD (i - 25)
      else op.getLsbD (i - 30) := by
  have h : (fmt3 op rd op3 rs1 tail).getLsbD i = BitVec.getLsbD (op ++ rd ++ op3 ++ rs1 ++ tail) i := rfl
  rw [h]; simp only [BitVec.getLsbD_append, Nat.sub_sub]; grind

theorem fmt1_mask (d : BitVec 30) : fmt1 d &&& 0xC0000000#32 = 0x40000000#32 := by
  apply mask_eq; intro i; rw [fmt1_bit]
  fin_cases i <;> simp

theorem fmt2a_mask (rd : RegNum) (op2 : BitVec 3) (imm22 : BitVec 22) :
    fmt2a rd op2 imm22 &&& 0xC1C00000#32 = fmt2a 0 op2 0 := by
  apply mask_eq; intro i; rw [fmt2a_bit, fmt2a_bit]
  fin_cases i <;> simp

theorem fmt2b_mask (a : Bool) (cond : BitVec 4) (op2 : BitVec 3) (disp22 : BitVec 22) :
    fmt2b a cond op2 disp22 &&& 0xDFC00000#32 = fmt2b false cond op2 0 := by
  apply mask_eq; intro i; rw [fmt2b_bit, fmt2b_bit]
  fin_cases i <;> simp

theorem fmt3_mask (op : BitVec 2) (rd : RegNum) (op3 : BitVec 6) (rs1 : RegNum) (tail : BitVec 14) :
    fmt3 op rd op3 rs1 tail &&& 0xC1F80000#32 = fmt3 op 0 op3 0 0 := by
  apply mask_eq; intro i; rw [fmt3_bit, fmt3_bit]
  fin_cases i <;> simp

theorem fmt3_cond_mask (op : BitVec 2) (cond : BitVec 4) (op3 : BitVec 6) (rs1 : RegNum) (tail : BitVec 14) :
    fmt3 op (0#1 ++ cond) op3 rs1 tail &&& 0xDFF80000#32 = fmt3 op (0#1 ++ cond) op3 0 0 := by
  apply mask_eq; intro i; rw [fmt3_bit, fmt3_bit]
  fin_cases i <;> simp
  grind

theorem fmt3_opf_mask (op : BitVec 2) (rd : RegNum) (op3 : BitVec 6) (rs1 : RegNum) (opf : BitVec 9)
    (rs2 : RegNum) : fmt3 op rd op3 rs1 (opf ++ rs2) &&& 0xC1F83FE0#32 = fmt3 op 0 op3 0 (opf ++ 0#5) := by
  apply mask_eq; intro i; rw [fmt3_bit, fmt3_bit]
  fin_cases i <;> simp <;> grind
end Sys2Proof
end

