-- ==== Sys2Proof/Laws/Memory.lean ====
section
/-! SUPPORT. Memory: a read after a write, and every operation keeps the canonical form. -/

namespace Sys2Proof.Machine

theorem Memory.wf_cons {p : Nat} {b : Byte} {m : Memory} :
    Memory.wf ((p, b) :: m) = true ↔
      b ≠ unlistedByte p ∧ (∀ c ∈ m, p < c.1) ∧ Memory.wf m = true := by
  simp [Memory.wf, and_assoc]

/-- A place below every entry reads as an unlisted one. -/
theorem Memory.get_below {m : Memory} {a : Nat} (h : ∀ c ∈ m, a < c.1) : m.get a = unlistedByte a := by
  induction m with
  | nil => rfl
  | cons c m ih =>
    obtain ⟨p, b⟩ := c
    have hp : a < p := h (p, b) (by simp)
    simp only [Memory.get]
    rw [if_neg (by omega)]
    exact ih fun d hd => h d (by simp [hd])

/-- The places of a written memory are the old ones and the written one. -/
theorem Memory.mem_set {m : Memory} {a : Nat} {b : Byte} {c : Host.Cell} (h : c ∈ m.set a b) :
    c ∈ m ∨ c = (a, b) := by
  induction m with
  | nil => simp only [Memory.set] at h; split at h <;> simp_all
  | cons d m ih =>
    obtain ⟨p, x⟩ := d
    simp only [Memory.set] at h
    split_ifs at h <;> simp only [List.mem_cons] at h ⊢ <;> tauto

/-- A write keeps the canonical form. -/
theorem Memory.set_wf {m : Memory} (h : m.wf = true) (a : Nat) (b : Byte) : (m.set a b).wf = true := by
  induction m with
  | nil => simp only [Memory.set]; split <;> simp_all [Memory.wf]
  | cons c m ih =>
    obtain ⟨p, x⟩ := c
    obtain ⟨hx, hlt, hm⟩ := Memory.wf_cons.1 h
    simp only [Memory.set]
    split_ifs with h1 h2 h3 h4
    · exact h
    · refine Memory.wf_cons.2 ⟨h2, ?_, h⟩
      rintro c hc
      rcases List.mem_cons.1 hc with rfl | hc
      · exact h1
      · exact lt_trans h1 (hlt c hc)
    · exact hm
    · exact Memory.wf_cons.2 ⟨h4, fun c hc => h3 ▸ hlt c hc, hm⟩
    · refine Memory.wf_cons.2 ⟨hx, fun c hc => ?_, ih hm⟩
      rcases Memory.mem_set hc with hc | rfl
      · exact hlt c hc
      · simp only; omega

theorem Memory.setBytes_wf {m : Memory} (h : m.wf = true) (p : Nat) (bs : List Byte) :
    (m.setBytes p bs).wf = true := by
  induction bs generalizing m p with
  | nil => exact h
  | cons b bs ih => exact ih (Memory.set_wf h p b) (p + 1)

theorem Memory.setCells_wf {m : Memory} (h : m.wf = true) (cs : List Host.Cell) :
    (m.setCells cs).wf = true := by
  induction cs generalizing m with
  | nil => exact h
  | cons c cs ih => exact ih (Memory.set_wf h c.1 c.2)

/-- A write leaves every other place alone. -/
theorem Memory.get_set_ne (m : Memory) {a q : Nat} (b : Byte) (h : q ≠ a) : (m.set a b).get q = m.get q := by
  induction m with
  | nil =>
    simp only [Memory.set]; split
    · rfl
    · simp [Memory.get, h.symm]
  | cons c m ih =>
    obtain ⟨p, x⟩ := c
    simp only [Memory.set]
    split_ifs with h1 h2 h3 h4 <;> simp only [Memory.get, ih] <;> split_ifs <;> first | rfl | omega

/-- A read of the written place gives the value written. -/
theorem Memory.get_set_eq {m : Memory} (h : m.wf = true) (a : Nat) (b : Byte) : (m.set a b).get a = b := by
  induction m with
  | nil =>
    simp only [Memory.set]; split
    · next e => exact e.symm
    · simp [Memory.get]
  | cons c m ih =>
    obtain ⟨p, x⟩ := c
    obtain ⟨_, hlt, hm⟩ := Memory.wf_cons.1 h
    simp only [Memory.set]
    split_ifs with h1 h2 h3 h4
    · rw [h2]; exact Memory.get_below (by
        rintro c hc; rcases List.mem_cons.1 hc with rfl | hc
        · exact h1
        · exact lt_trans h1 (hlt c hc))
    · simp [Memory.get]
    · rw [h4]; exact Memory.get_below fun c hc => h3 ▸ hlt c hc
    · simp [Memory.get]
    · simp only [Memory.get]; rw [if_neg (by omega)]; exact ih hm

theorem Memory.get_setBytes_outside (m : Memory) (p : Nat) (bs : List Byte) {q : Nat}
    (h : q < p ∨ p + bs.length ≤ q) : (m.setBytes p bs).get q = m.get q := by
  induction bs generalizing m p with
  | nil => rfl
  | cons b bs ih =>
    simp only [List.length_cons] at h
    simp only [Memory.setBytes]
    rw [ih _ _ (by omega), Memory.get_set_ne _ _ (by omega)]

theorem Memory.get_setBytes_inside {m : Memory} (h : m.wf = true) (p : Nat) (bs : List Byte) {k : Nat}
    (hk : k < bs.length) : (m.setBytes p bs).get (p + k) = bs[k] := by
  induction bs generalizing m p k with
  | nil => simp at hk
  | cons b bs ih =>
    simp only [Memory.setBytes]
    cases k with
    | zero => rw [Memory.get_setBytes_outside _ _ _ (by omega)]; simpa using Memory.get_set_eq h p b
    | succ k =>
      have := ih (Memory.set_wf h p b) (p + 1) (k := k) (by simpa using hk)
      rw [show p + (k + 1) = p + 1 + k by omega]; simpa using this

@[simp] theorem storeBytes_length (v : Word) (z : Size) : (storeBytes v z).length = z.bytes := by cases z <;> rfl

/-- The memory right after reset has the canonical form. -/
theorem reset_mem_wf : State.reset.mem.wf = true := rfl

end Sys2Proof.Machine
end

