-- ==== Sys2Proof/Laws/State.lean ====
section
/-! SUPPORT. What each field of the state is after each update, one lemma per field. The registers after an update
that writes one are in Laws/Registers.lean. -/

namespace Sys2Proof.Machine

@[simp] theorem writeHome_pc (s : State) (h : RegHome) (v : Word) :
    (writeHome s h v).pc = s.pc := by cases h <;> rfl
@[simp] theorem writeHome_npc (s : State) (h : RegHome) (v : Word) :
    (writeHome s h v).npc = s.npc := by cases h <;> rfl
@[simp] theorem writeHome_psr (s : State) (h : RegHome) (v : Word) :
    (writeHome s h v).psr = s.psr := by cases h <;> rfl
@[simp] theorem writeHome_wim (s : State) (h : RegHome) (v : Word) :
    (writeHome s h v).wim = s.wim := by cases h <;> rfl
@[simp] theorem writeHome_tba (s : State) (h : RegHome) (v : Word) :
    (writeHome s h v).tba = s.tba := by cases h <;> rfl
@[simp] theorem writeHome_tt (s : State) (h : RegHome) (v : Word) :
    (writeHome s h v).tt = s.tt := by cases h <;> rfl
@[simp] theorem writeHome_y (s : State) (h : RegHome) (v : Word) :
    (writeHome s h v).y = s.y := by cases h <;> rfl
@[simp] theorem writeHome_mode (s : State) (h : RegHome) (v : Word) :
    (writeHome s h v).mode = s.mode := by cases h <;> rfl
@[simp] theorem writeHome_psrDelay (s : State) (h : RegHome) (v : Word) :
    (writeHome s h v).psrDelay = s.psrDelay := by cases h <;> rfl
@[simp] theorem writeHome_wimDelay (s : State) (h : RegHome) (v : Word) :
    (writeHome s h v).wimDelay = s.wimDelay := by cases h <;> rfl
@[simp] theorem writeHome_tbrDelay (s : State) (h : RegHome) (v : Word) :
    (writeHome s h v).tbrDelay = s.tbrDelay := by cases h <;> rfl
@[simp] theorem writeHome_yDelay (s : State) (h : RegHome) (v : Word) :
    (writeHome s h v).yDelay = s.yDelay := by cases h <;> rfl
@[simp] theorem writeHome_stale (s : State) (h : RegHome) (v : Word) :
    (writeHome s h v).stale = s.stale := by cases h <;> rfl
@[simp] theorem writeHome_afterJmpl (s : State) (h : RegHome) (v : Word) :
    (writeHome s h v).afterJmpl = s.afterJmpl := by cases h <;> rfl
@[simp] theorem writeHome_mem (s : State) (h : RegHome) (v : Word) :
    (writeHome s h v).mem = s.mem := by cases h <;> rfl
@[simp] theorem writeHome_spaces (s : State) (h : RegHome) (v : Word) :
    (writeHome s h v).spaces = s.spaces := by cases h <;> rfl
@[simp] theorem writeHome_tc (s : State) (h : RegHome) (v : Word) :
    (writeHome s h v).tc = s.tc := by cases h <;> rfl
@[simp] theorem writeHome_fpuPresent (s : State) (h : RegHome) (v : Word) :
    (writeHome s h v).fpuPresent = s.fpuPresent := by cases h <;> rfl
@[simp] theorem writeHome_fexc (s : State) (h : RegHome) (v : Word) :
    (writeHome s h v).fexc = s.fexc := by cases h <;> rfl
@[simp] theorem writeHome_fcc (s : State) (h : RegHome) (v : Word) :
    (writeHome s h v).fcc = s.fcc := by cases h <;> rfl
@[simp] theorem writeHome_fpuOut (s : State) (h : RegHome) (v : Word) :
    (writeHome s h v).fpuOut = s.fpuOut := by cases h <;> rfl
@[simp] theorem writeHome_bus (s : State) (h : RegHome) (v : Word) :
    (writeHome s h v).bus = s.bus := by cases h <;> rfl
@[simp] theorem writeHome_busOut (s : State) (h : RegHome) (v : Word) :
    (writeHome s h v).busOut = s.busOut := by cases h <;> rfl
@[simp] theorem writeHome_inputs (s : State) (h : RegHome) (v : Word) :
    (writeHome s h v).inputs = s.inputs := by cases h <;> rfl
@[simp] theorem writeHome_free (s : State) (h : RegHome) (v : Word) :
    (writeHome s h v).free = s.free := by cases h <;> rfl

@[simp] theorem writeWin_pc (s : State) (w : WindowNum) (n : RegNum) (v : Word) :
    (writeWin s w n v).pc = s.pc := by simp [writeWin]
@[simp] theorem writeWin_npc (s : State) (w : WindowNum) (n : RegNum) (v : Word) :
    (writeWin s w n v).npc = s.npc := by simp [writeWin]
@[simp] theorem writeWin_psr (s : State) (w : WindowNum) (n : RegNum) (v : Word) :
    (writeWin s w n v).psr = s.psr := by simp [writeWin]
@[simp] theorem writeWin_wim (s : State) (w : WindowNum) (n : RegNum) (v : Word) :
    (writeWin s w n v).wim = s.wim := by simp [writeWin]
@[simp] theorem writeWin_tba (s : State) (w : WindowNum) (n : RegNum) (v : Word) :
    (writeWin s w n v).tba = s.tba := by simp [writeWin]
@[simp] theorem writeWin_tt (s : State) (w : WindowNum) (n : RegNum) (v : Word) :
    (writeWin s w n v).tt = s.tt := by simp [writeWin]
@[simp] theorem writeWin_y (s : State) (w : WindowNum) (n : RegNum) (v : Word) :
    (writeWin s w n v).y = s.y := by simp [writeWin]
@[simp] theorem writeWin_mode (s : State) (w : WindowNum) (n : RegNum) (v : Word) :
    (writeWin s w n v).mode = s.mode := by simp [writeWin]
@[simp] theorem writeWin_psrDelay (s : State) (w : WindowNum) (n : RegNum) (v : Word) :
    (writeWin s w n v).psrDelay = s.psrDelay := by simp [writeWin]
@[simp] theorem writeWin_wimDelay (s : State) (w : WindowNum) (n : RegNum) (v : Word) :
    (writeWin s w n v).wimDelay = s.wimDelay := by simp [writeWin]
@[simp] theorem writeWin_tbrDelay (s : State) (w : WindowNum) (n : RegNum) (v : Word) :
    (writeWin s w n v).tbrDelay = s.tbrDelay := by simp [writeWin]
@[simp] theorem writeWin_yDelay (s : State) (w : WindowNum) (n : RegNum) (v : Word) :
    (writeWin s w n v).yDelay = s.yDelay := by simp [writeWin]
@[simp] theorem writeWin_stale (s : State) (w : WindowNum) (n : RegNum) (v : Word) :
    (writeWin s w n v).stale = s.stale := by simp [writeWin]
@[simp] theorem writeWin_afterJmpl (s : State) (w : WindowNum) (n : RegNum) (v : Word) :
    (writeWin s w n v).afterJmpl = s.afterJmpl := by simp [writeWin]
@[simp] theorem writeWin_mem (s : State) (w : WindowNum) (n : RegNum) (v : Word) :
    (writeWin s w n v).mem = s.mem := by simp [writeWin]
@[simp] theorem writeWin_spaces (s : State) (w : WindowNum) (n : RegNum) (v : Word) :
    (writeWin s w n v).spaces = s.spaces := by simp [writeWin]
@[simp] theorem writeWin_tc (s : State) (w : WindowNum) (n : RegNum) (v : Word) :
    (writeWin s w n v).tc = s.tc := by simp [writeWin]
@[simp] theorem writeWin_fpuPresent (s : State) (w : WindowNum) (n : RegNum) (v : Word) :
    (writeWin s w n v).fpuPresent = s.fpuPresent := by simp [writeWin]
@[simp] theorem writeWin_fexc (s : State) (w : WindowNum) (n : RegNum) (v : Word) :
    (writeWin s w n v).fexc = s.fexc := by simp [writeWin]
@[simp] theorem writeWin_fcc (s : State) (w : WindowNum) (n : RegNum) (v : Word) :
    (writeWin s w n v).fcc = s.fcc := by simp [writeWin]
@[simp] theorem writeWin_fpuOut (s : State) (w : WindowNum) (n : RegNum) (v : Word) :
    (writeWin s w n v).fpuOut = s.fpuOut := by simp [writeWin]
@[simp] theorem writeWin_bus (s : State) (w : WindowNum) (n : RegNum) (v : Word) :
    (writeWin s w n v).bus = s.bus := by simp [writeWin]
@[simp] theorem writeWin_busOut (s : State) (w : WindowNum) (n : RegNum) (v : Word) :
    (writeWin s w n v).busOut = s.busOut := by simp [writeWin]
@[simp] theorem writeWin_inputs (s : State) (w : WindowNum) (n : RegNum) (v : Word) :
    (writeWin s w n v).inputs = s.inputs := by simp [writeWin]
@[simp] theorem writeWin_free (s : State) (w : WindowNum) (n : RegNum) (v : Word) :
    (writeWin s w n v).free = s.free := by simp [writeWin]

@[simp] theorem retire_globals (s : State) (a b : Word) : (retire s a b).globals = s.globals := rfl
@[simp] theorem retire_windowed (s : State) (a b : Word) : (retire s a b).windowed = s.windowed := rfl
@[simp] theorem retire_pc (s : State) (a b : Word) : (retire s a b).pc = a := rfl
@[simp] theorem retire_npc (s : State) (a b : Word) : (retire s a b).npc = b := rfl
@[simp] theorem retire_psr (s : State) (a b : Word) : (retire s a b).psr = s.psr := rfl
@[simp] theorem retire_wim (s : State) (a b : Word) : (retire s a b).wim = s.wim := rfl
@[simp] theorem retire_tba (s : State) (a b : Word) : (retire s a b).tba = s.tba := rfl
@[simp] theorem retire_tt (s : State) (a b : Word) : (retire s a b).tt = s.tt := rfl
@[simp] theorem retire_y (s : State) (a b : Word) : (retire s a b).y = s.y := rfl
@[simp] theorem retire_mode (s : State) (a b : Word) : (retire s a b).mode = s.mode := rfl
@[simp] theorem retire_psrDelay (s : State) (a b : Word) : (retire s a b).psrDelay = s.psrDelay.tick := rfl
@[simp] theorem retire_wimDelay (s : State) (a b : Word) : (retire s a b).wimDelay = s.wimDelay - 1 := rfl
@[simp] theorem retire_tbrDelay (s : State) (a b : Word) : (retire s a b).tbrDelay = s.tbrDelay.tick := rfl
@[simp] theorem retire_yDelay (s : State) (a b : Word) : (retire s a b).yDelay = s.yDelay - 1 := rfl
@[simp] theorem retire_stale (s : State) (a b : Word) : (retire s a b).stale = ageStale s.stale := rfl
@[simp] theorem retire_afterJmpl (s : State) (a b : Word) : (retire s a b).afterJmpl = false := rfl
@[simp] theorem retire_mem (s : State) (a b : Word) : (retire s a b).mem = s.mem := rfl
@[simp] theorem retire_spaces (s : State) (a b : Word) : (retire s a b).spaces = s.spaces := rfl
@[simp] theorem retire_tc (s : State) (a b : Word) : (retire s a b).tc = s.tc := rfl
@[simp] theorem retire_fpuPresent (s : State) (a b : Word) : (retire s a b).fpuPresent = s.fpuPresent := rfl
@[simp] theorem retire_fexc (s : State) (a b : Word) : (retire s a b).fexc = s.fexc := rfl
@[simp] theorem retire_fcc (s : State) (a b : Word) : (retire s a b).fcc = s.fcc := rfl
@[simp] theorem retire_fpuOut (s : State) (a b : Word) : (retire s a b).fpuOut = s.fpuOut := rfl
@[simp] theorem retire_bus (s : State) (a b : Word) : (retire s a b).bus = s.bus := rfl
@[simp] theorem retire_busOut (s : State) (a b : Word) : (retire s a b).busOut = s.busOut := rfl
@[simp] theorem retire_inputs (s : State) (a b : Word) : (retire s a b).inputs = s.inputs := rfl
@[simp] theorem retire_free (s : State) (a b : Word) : (retire s a b).free = s.free + 1 := rfl

@[simp] theorem advance_globals (s : State) : (advance s).globals = s.globals := rfl
@[simp] theorem advance_windowed (s : State) : (advance s).windowed = s.windowed := rfl
@[simp] theorem advance_pc (s : State) : (advance s).pc = s.npc := rfl
@[simp] theorem advance_npc (s : State) : (advance s).npc = s.npc + 4 := rfl
@[simp] theorem advance_psr (s : State) : (advance s).psr = s.psr := rfl
@[simp] theorem advance_wim (s : State) : (advance s).wim = s.wim := rfl
@[simp] theorem advance_tba (s : State) : (advance s).tba = s.tba := rfl
@[simp] theorem advance_tt (s : State) : (advance s).tt = s.tt := rfl
@[simp] theorem advance_y (s : State) : (advance s).y = s.y := rfl
@[simp] theorem advance_mode (s : State) : (advance s).mode = s.mode := rfl
@[simp] theorem advance_psrDelay (s : State) : (advance s).psrDelay = s.psrDelay.tick := rfl
@[simp] theorem advance_wimDelay (s : State) : (advance s).wimDelay = s.wimDelay - 1 := rfl
@[simp] theorem advance_tbrDelay (s : State) : (advance s).tbrDelay = s.tbrDelay.tick := rfl
@[simp] theorem advance_yDelay (s : State) : (advance s).yDelay = s.yDelay - 1 := rfl
@[simp] theorem advance_stale (s : State) : (advance s).stale = ageStale s.stale := rfl
@[simp] theorem advance_afterJmpl (s : State) : (advance s).afterJmpl = false := rfl
@[simp] theorem advance_mem (s : State) : (advance s).mem = s.mem := rfl
@[simp] theorem advance_spaces (s : State) : (advance s).spaces = s.spaces := rfl
@[simp] theorem advance_tc (s : State) : (advance s).tc = s.tc := rfl
@[simp] theorem advance_fpuPresent (s : State) : (advance s).fpuPresent = s.fpuPresent := rfl
@[simp] theorem advance_fexc (s : State) : (advance s).fexc = s.fexc := rfl
@[simp] theorem advance_fcc (s : State) : (advance s).fcc = s.fcc := rfl
@[simp] theorem advance_fpuOut (s : State) : (advance s).fpuOut = s.fpuOut := rfl
@[simp] theorem advance_bus (s : State) : (advance s).bus = s.bus := rfl
@[simp] theorem advance_busOut (s : State) : (advance s).busOut = s.busOut := rfl
@[simp] theorem advance_inputs (s : State) : (advance s).inputs = s.inputs := rfl
@[simp] theorem advance_free (s : State) : (advance s).free = s.free + 1 := rfl

@[simp] theorem delayedTo_globals (s : State) (a : Word) : (delayedTo s a).globals = s.globals := rfl
@[simp] theorem delayedTo_windowed (s : State) (a : Word) : (delayedTo s a).windowed = s.windowed := rfl
@[simp] theorem delayedTo_pc (s : State) (a : Word) : (delayedTo s a).pc = s.npc := rfl
@[simp] theorem delayedTo_npc (s : State) (a : Word) : (delayedTo s a).npc = a := rfl
@[simp] theorem delayedTo_psr (s : State) (a : Word) : (delayedTo s a).psr = s.psr := rfl
@[simp] theorem delayedTo_wim (s : State) (a : Word) : (delayedTo s a).wim = s.wim := rfl
@[simp] theorem delayedTo_tba (s : State) (a : Word) : (delayedTo s a).tba = s.tba := rfl
@[simp] theorem delayedTo_tt (s : State) (a : Word) : (delayedTo s a).tt = s.tt := rfl
@[simp] theorem delayedTo_y (s : State) (a : Word) : (delayedTo s a).y = s.y := rfl
@[simp] theorem delayedTo_mode (s : State) (a : Word) : (delayedTo s a).mode = s.mode := rfl
@[simp] theorem delayedTo_psrDelay (s : State) (a : Word) : (delayedTo s a).psrDelay = s.psrDelay.tick := rfl
@[simp] theorem delayedTo_wimDelay (s : State) (a : Word) : (delayedTo s a).wimDelay = s.wimDelay - 1 := rfl
@[simp] theorem delayedTo_tbrDelay (s : State) (a : Word) : (delayedTo s a).tbrDelay = s.tbrDelay.tick := rfl
@[simp] theorem delayedTo_yDelay (s : State) (a : Word) : (delayedTo s a).yDelay = s.yDelay - 1 := rfl
@[simp] theorem delayedTo_stale (s : State) (a : Word) : (delayedTo s a).stale = ageStale s.stale := rfl
@[simp] theorem delayedTo_afterJmpl (s : State) (a : Word) : (delayedTo s a).afterJmpl = false := rfl
@[simp] theorem delayedTo_mem (s : State) (a : Word) : (delayedTo s a).mem = s.mem := rfl
@[simp] theorem delayedTo_spaces (s : State) (a : Word) : (delayedTo s a).spaces = s.spaces := rfl
@[simp] theorem delayedTo_tc (s : State) (a : Word) : (delayedTo s a).tc = s.tc := rfl
@[simp] theorem delayedTo_fpuPresent (s : State) (a : Word) : (delayedTo s a).fpuPresent = s.fpuPresent := rfl
@[simp] theorem delayedTo_fexc (s : State) (a : Word) : (delayedTo s a).fexc = s.fexc := rfl
@[simp] theorem delayedTo_fcc (s : State) (a : Word) : (delayedTo s a).fcc = s.fcc := rfl
@[simp] theorem delayedTo_fpuOut (s : State) (a : Word) : (delayedTo s a).fpuOut = s.fpuOut := rfl
@[simp] theorem delayedTo_bus (s : State) (a : Word) : (delayedTo s a).bus = s.bus := rfl
@[simp] theorem delayedTo_busOut (s : State) (a : Word) : (delayedTo s a).busOut = s.busOut := rfl
@[simp] theorem delayedTo_inputs (s : State) (a : Word) : (delayedTo s a).inputs = s.inputs := rfl
@[simp] theorem delayedTo_free (s : State) (a : Word) : (delayedTo s a).free = s.free + 1 := rfl

@[simp] theorem writePlace_globals (s : State) (p : Nat) (z : Size) (v : Word) :
    (writePlace s p z v).globals = s.globals := rfl
@[simp] theorem writePlace_windowed (s : State) (p : Nat) (z : Size) (v : Word) :
    (writePlace s p z v).windowed = s.windowed := rfl
@[simp] theorem writePlace_pc (s : State) (p : Nat) (z : Size) (v : Word) :
    (writePlace s p z v).pc = s.pc := rfl
@[simp] theorem writePlace_npc (s : State) (p : Nat) (z : Size) (v : Word) :
    (writePlace s p z v).npc = s.npc := rfl
@[simp] theorem writePlace_psr (s : State) (p : Nat) (z : Size) (v : Word) :
    (writePlace s p z v).psr = s.psr := rfl
@[simp] theorem writePlace_wim (s : State) (p : Nat) (z : Size) (v : Word) :
    (writePlace s p z v).wim = s.wim := rfl
@[simp] theorem writePlace_tba (s : State) (p : Nat) (z : Size) (v : Word) :
    (writePlace s p z v).tba = s.tba := rfl
@[simp] theorem writePlace_tt (s : State) (p : Nat) (z : Size) (v : Word) :
    (writePlace s p z v).tt = s.tt := rfl
@[simp] theorem writePlace_y (s : State) (p : Nat) (z : Size) (v : Word) : (writePlace s p z v).y = s.y := rfl
@[simp] theorem writePlace_mode (s : State) (p : Nat) (z : Size) (v : Word) :
    (writePlace s p z v).mode = s.mode := rfl
@[simp] theorem writePlace_psrDelay (s : State) (p : Nat) (z : Size) (v : Word) :
    (writePlace s p z v).psrDelay = s.psrDelay := rfl
@[simp] theorem writePlace_wimDelay (s : State) (p : Nat) (z : Size) (v : Word) :
    (writePlace s p z v).wimDelay = s.wimDelay := rfl
@[simp] theorem writePlace_tbrDelay (s : State) (p : Nat) (z : Size) (v : Word) :
    (writePlace s p z v).tbrDelay = s.tbrDelay := rfl
@[simp] theorem writePlace_yDelay (s : State) (p : Nat) (z : Size) (v : Word) :
    (writePlace s p z v).yDelay = s.yDelay := rfl
@[simp] theorem writePlace_stale (s : State) (p : Nat) (z : Size) (v : Word) :
    (writePlace s p z v).stale = ⟨wordPlace p, s.mem.word (wordPlace p), Config.prefetchDepth⟩ :: s.stale := rfl
@[simp] theorem writePlace_afterJmpl (s : State) (p : Nat) (z : Size) (v : Word) :
    (writePlace s p z v).afterJmpl = s.afterJmpl := rfl
@[simp] theorem writePlace_mem (s : State) (p : Nat) (z : Size) (v : Word) :
    (writePlace s p z v).mem = s.mem.setBytes p (storeBytes v z) := rfl
@[simp] theorem writePlace_spaces (s : State) (p : Nat) (z : Size) (v : Word) :
    (writePlace s p z v).spaces = s.spaces := rfl
@[simp] theorem writePlace_tc (s : State) (p : Nat) (z : Size) (v : Word) :
    (writePlace s p z v).tc = s.tc := rfl
@[simp] theorem writePlace_fpuPresent (s : State) (p : Nat) (z : Size) (v : Word) :
    (writePlace s p z v).fpuPresent = s.fpuPresent := rfl
@[simp] theorem writePlace_fexc (s : State) (p : Nat) (z : Size) (v : Word) :
    (writePlace s p z v).fexc = s.fexc := rfl
@[simp] theorem writePlace_fcc (s : State) (p : Nat) (z : Size) (v : Word) :
    (writePlace s p z v).fcc = s.fcc := rfl
@[simp] theorem writePlace_fpuOut (s : State) (p : Nat) (z : Size) (v : Word) :
    (writePlace s p z v).fpuOut = s.fpuOut := rfl
@[simp] theorem writePlace_bus (s : State) (p : Nat) (z : Size) (v : Word) :
    (writePlace s p z v).bus = s.bus := rfl
@[simp] theorem writePlace_busOut (s : State) (p : Nat) (z : Size) (v : Word) :
    (writePlace s p z v).busOut = s.busOut := rfl
@[simp] theorem writePlace_inputs (s : State) (p : Nat) (z : Size) (v : Word) :
    (writePlace s p z v).inputs = s.inputs := rfl
@[simp] theorem writePlace_free (s : State) (p : Nat) (z : Size) (v : Word) :
    (writePlace s p z v).free = s.free := rfl

@[simp] theorem answerWrite_globals (a : BusAnswer) (s : State) (asi : Asi) (ea : Word) (z : Size) (v : Word) :
    (answerWrite a s asi ea z v).globals = s.globals := by cases a <;> rfl
@[simp] theorem answerWrite_windowed (a : BusAnswer) (s : State) (asi : Asi) (ea : Word) (z : Size) (v : Word) :
    (answerWrite a s asi ea z v).windowed = s.windowed := by cases a <;> rfl
@[simp] theorem answerWrite_pc (a : BusAnswer) (s : State) (asi : Asi) (ea : Word) (z : Size) (v : Word) :
    (answerWrite a s asi ea z v).pc = s.pc := by cases a <;> rfl
@[simp] theorem answerWrite_npc (a : BusAnswer) (s : State) (asi : Asi) (ea : Word) (z : Size) (v : Word) :
    (answerWrite a s asi ea z v).npc = s.npc := by cases a <;> rfl
@[simp] theorem answerWrite_psr (a : BusAnswer) (s : State) (asi : Asi) (ea : Word) (z : Size) (v : Word) :
    (answerWrite a s asi ea z v).psr = s.psr := by cases a <;> rfl
@[simp] theorem answerWrite_wim (a : BusAnswer) (s : State) (asi : Asi) (ea : Word) (z : Size) (v : Word) :
    (answerWrite a s asi ea z v).wim = s.wim := by cases a <;> rfl
@[simp] theorem answerWrite_tba (a : BusAnswer) (s : State) (asi : Asi) (ea : Word) (z : Size) (v : Word) :
    (answerWrite a s asi ea z v).tba = s.tba := by cases a <;> rfl
@[simp] theorem answerWrite_tt (a : BusAnswer) (s : State) (asi : Asi) (ea : Word) (z : Size) (v : Word) :
    (answerWrite a s asi ea z v).tt = s.tt := by cases a <;> rfl
@[simp] theorem answerWrite_y (a : BusAnswer) (s : State) (asi : Asi) (ea : Word) (z : Size) (v : Word) :
    (answerWrite a s asi ea z v).y = s.y := by cases a <;> rfl
@[simp] theorem answerWrite_mode (a : BusAnswer) (s : State) (asi : Asi) (ea : Word) (z : Size) (v : Word) :
    (answerWrite a s asi ea z v).mode = s.mode := by cases a <;> rfl
@[simp] theorem answerWrite_psrDelay (a : BusAnswer) (s : State) (asi : Asi) (ea : Word) (z : Size) (v : Word) :
    (answerWrite a s asi ea z v).psrDelay = s.psrDelay := by cases a <;> rfl
@[simp] theorem answerWrite_wimDelay (a : BusAnswer) (s : State) (asi : Asi) (ea : Word) (z : Size) (v : Word) :
    (answerWrite a s asi ea z v).wimDelay = s.wimDelay := by cases a <;> rfl
@[simp] theorem answerWrite_tbrDelay (a : BusAnswer) (s : State) (asi : Asi) (ea : Word) (z : Size) (v : Word) :
    (answerWrite a s asi ea z v).tbrDelay = s.tbrDelay := by cases a <;> rfl
@[simp] theorem answerWrite_yDelay (a : BusAnswer) (s : State) (asi : Asi) (ea : Word) (z : Size) (v : Word) :
    (answerWrite a s asi ea z v).yDelay = s.yDelay := by cases a <;> rfl
@[simp] theorem answerWrite_afterJmpl (a : BusAnswer) (s : State) (asi : Asi) (ea : Word) (z : Size) (v : Word) :
    (answerWrite a s asi ea z v).afterJmpl = s.afterJmpl := by cases a <;> rfl
@[simp] theorem answerWrite_spaces (a : BusAnswer) (s : State) (asi : Asi) (ea : Word) (z : Size) (v : Word) :
    (answerWrite a s asi ea z v).spaces = s.spaces := by cases a <;> rfl
@[simp] theorem answerWrite_tc (a : BusAnswer) (s : State) (asi : Asi) (ea : Word) (z : Size) (v : Word) :
    (answerWrite a s asi ea z v).tc = s.tc := by cases a <;> rfl
@[simp] theorem answerWrite_fpuPresent (a : BusAnswer) (s : State) (asi : Asi) (ea : Word) (z : Size) (v : Word) :
    (answerWrite a s asi ea z v).fpuPresent = s.fpuPresent := by cases a <;> rfl
@[simp] theorem answerWrite_fexc (a : BusAnswer) (s : State) (asi : Asi) (ea : Word) (z : Size) (v : Word) :
    (answerWrite a s asi ea z v).fexc = s.fexc := by cases a <;> rfl
@[simp] theorem answerWrite_fcc (a : BusAnswer) (s : State) (asi : Asi) (ea : Word) (z : Size) (v : Word) :
    (answerWrite a s asi ea z v).fcc = s.fcc := by cases a <;> rfl
@[simp] theorem answerWrite_fpuOut (a : BusAnswer) (s : State) (asi : Asi) (ea : Word) (z : Size) (v : Word) :
    (answerWrite a s asi ea z v).fpuOut = s.fpuOut := by cases a <;> rfl
@[simp] theorem answerWrite_bus (a : BusAnswer) (s : State) (asi : Asi) (ea : Word) (z : Size) (v : Word) :
    (answerWrite a s asi ea z v).bus = s.bus := by cases a <;> rfl
@[simp] theorem answerWrite_busOut (a : BusAnswer) (s : State) (asi : Asi) (ea : Word) (z : Size) (v : Word) :
    (answerWrite a s asi ea z v).busOut = s.busOut := by cases a <;> rfl
@[simp] theorem answerWrite_inputs (a : BusAnswer) (s : State) (asi : Asi) (ea : Word) (z : Size) (v : Word) :
    (answerWrite a s asi ea z v).inputs = s.inputs := by cases a <;> rfl
@[simp] theorem answerWrite_free (a : BusAnswer) (s : State) (asi : Asi) (ea : Word) (z : Size) (v : Word) :
    (answerWrite a s asi ea z v).free = s.free := by cases a <;> rfl

@[simp] theorem afterAnswer_globals (c : BusCycle) (s : State) : (afterAnswer c s).globals = s.globals := rfl
@[simp] theorem afterAnswer_windowed (c : BusCycle) (s : State) : (afterAnswer c s).windowed = s.windowed := rfl
@[simp] theorem afterAnswer_pc (c : BusCycle) (s : State) : (afterAnswer c s).pc = s.pc := rfl
@[simp] theorem afterAnswer_npc (c : BusCycle) (s : State) : (afterAnswer c s).npc = s.npc := rfl
@[simp] theorem afterAnswer_psr (c : BusCycle) (s : State) : (afterAnswer c s).psr = s.psr := rfl
@[simp] theorem afterAnswer_wim (c : BusCycle) (s : State) : (afterAnswer c s).wim = s.wim := rfl
@[simp] theorem afterAnswer_tba (c : BusCycle) (s : State) : (afterAnswer c s).tba = s.tba := rfl
@[simp] theorem afterAnswer_tt (c : BusCycle) (s : State) : (afterAnswer c s).tt = s.tt := rfl
@[simp] theorem afterAnswer_y (c : BusCycle) (s : State) : (afterAnswer c s).y = s.y := rfl
@[simp] theorem afterAnswer_mode (c : BusCycle) (s : State) : (afterAnswer c s).mode = s.mode := rfl
@[simp] theorem afterAnswer_psrDelay (c : BusCycle) (s : State) : (afterAnswer c s).psrDelay = s.psrDelay := rfl
@[simp] theorem afterAnswer_wimDelay (c : BusCycle) (s : State) : (afterAnswer c s).wimDelay = s.wimDelay := rfl
@[simp] theorem afterAnswer_tbrDelay (c : BusCycle) (s : State) : (afterAnswer c s).tbrDelay = s.tbrDelay := rfl
@[simp] theorem afterAnswer_yDelay (c : BusCycle) (s : State) : (afterAnswer c s).yDelay = s.yDelay := rfl
@[simp] theorem afterAnswer_stale (c : BusCycle) (s : State) : (afterAnswer c s).stale = s.stale := rfl
@[simp] theorem afterAnswer_afterJmpl (c : BusCycle) (s : State) : (afterAnswer c s).afterJmpl = s.afterJmpl := rfl
@[simp] theorem afterAnswer_mem (c : BusCycle) (s : State) : (afterAnswer c s).mem = s.mem := rfl
@[simp] theorem afterAnswer_spaces (c : BusCycle) (s : State) : (afterAnswer c s).spaces = s.spaces := rfl
@[simp] theorem afterAnswer_tc (c : BusCycle) (s : State) : (afterAnswer c s).tc = s.tc := rfl
@[simp] theorem afterAnswer_fpuPresent (c : BusCycle) (s : State) : (afterAnswer c s).fpuPresent = s.fpuPresent := rfl
@[simp] theorem afterAnswer_fexc (c : BusCycle) (s : State) : (afterAnswer c s).fexc = s.fexc := rfl
@[simp] theorem afterAnswer_fcc (c : BusCycle) (s : State) : (afterAnswer c s).fcc = s.fcc := rfl
@[simp] theorem afterAnswer_fpuOut (c : BusCycle) (s : State) : (afterAnswer c s).fpuOut = s.fpuOut := rfl
@[simp] theorem afterAnswer_bus (c : BusCycle) (s : State) : (afterAnswer c s).bus = s.bus.tail := rfl
@[simp] theorem afterAnswer_busOut (c : BusCycle) (s : State) :
    (afterAnswer c s).busOut = s.busOut ++ [c] := rfl
@[simp] theorem afterAnswer_inputs (c : BusCycle) (s : State) : (afterAnswer c s).inputs = s.inputs := rfl
@[simp] theorem afterAnswer_free (c : BusCycle) (s : State) : (afterAnswer c s).free = s.free := rfl

@[simp] theorem sendFpu_globals (es : List FpuEvent) (s : State) : (sendFpu es s).globals = s.globals := rfl
@[simp] theorem sendFpu_windowed (es : List FpuEvent) (s : State) :
    (sendFpu es s).windowed = s.windowed := rfl
@[simp] theorem sendFpu_pc (es : List FpuEvent) (s : State) : (sendFpu es s).pc = s.pc := rfl
@[simp] theorem sendFpu_npc (es : List FpuEvent) (s : State) : (sendFpu es s).npc = s.npc := rfl
@[simp] theorem sendFpu_psr (es : List FpuEvent) (s : State) : (sendFpu es s).psr = s.psr := rfl
@[simp] theorem sendFpu_wim (es : List FpuEvent) (s : State) : (sendFpu es s).wim = s.wim := rfl
@[simp] theorem sendFpu_tba (es : List FpuEvent) (s : State) : (sendFpu es s).tba = s.tba := rfl
@[simp] theorem sendFpu_tt (es : List FpuEvent) (s : State) : (sendFpu es s).tt = s.tt := rfl
@[simp] theorem sendFpu_y (es : List FpuEvent) (s : State) : (sendFpu es s).y = s.y := rfl
@[simp] theorem sendFpu_mode (es : List FpuEvent) (s : State) : (sendFpu es s).mode = s.mode := rfl
@[simp] theorem sendFpu_psrDelay (es : List FpuEvent) (s : State) :
    (sendFpu es s).psrDelay = s.psrDelay := rfl
@[simp] theorem sendFpu_wimDelay (es : List FpuEvent) (s : State) :
    (sendFpu es s).wimDelay = s.wimDelay := rfl
@[simp] theorem sendFpu_tbrDelay (es : List FpuEvent) (s : State) :
    (sendFpu es s).tbrDelay = s.tbrDelay := rfl
@[simp] theorem sendFpu_yDelay (es : List FpuEvent) (s : State) : (sendFpu es s).yDelay = s.yDelay := rfl
@[simp] theorem sendFpu_stale (es : List FpuEvent) (s : State) : (sendFpu es s).stale = s.stale := rfl
@[simp] theorem sendFpu_afterJmpl (es : List FpuEvent) (s : State) :
    (sendFpu es s).afterJmpl = s.afterJmpl := rfl
@[simp] theorem sendFpu_mem (es : List FpuEvent) (s : State) : (sendFpu es s).mem = s.mem := rfl
@[simp] theorem sendFpu_spaces (es : List FpuEvent) (s : State) : (sendFpu es s).spaces = s.spaces := rfl
@[simp] theorem sendFpu_tc (es : List FpuEvent) (s : State) : (sendFpu es s).tc = s.tc := rfl
@[simp] theorem sendFpu_fpuPresent (es : List FpuEvent) (s : State) :
    (sendFpu es s).fpuPresent = s.fpuPresent := rfl
@[simp] theorem sendFpu_fexc (es : List FpuEvent) (s : State) : (sendFpu es s).fexc = s.fexc := rfl
@[simp] theorem sendFpu_fcc (es : List FpuEvent) (s : State) : (sendFpu es s).fcc = s.fcc := rfl
@[simp] theorem sendFpu_fpuOut (es : List FpuEvent) (s : State) :
    (sendFpu es s).fpuOut = s.fpuOut ++ es := rfl
@[simp] theorem sendFpu_bus (es : List FpuEvent) (s : State) : (sendFpu es s).bus = s.bus := rfl
@[simp] theorem sendFpu_busOut (es : List FpuEvent) (s : State) : (sendFpu es s).busOut = s.busOut := rfl
@[simp] theorem sendFpu_inputs (es : List FpuEvent) (s : State) : (sendFpu es s).inputs = s.inputs := rfl
@[simp] theorem sendFpu_free (es : List FpuEvent) (s : State) : (sendFpu es s).free = s.free := rfl

@[simp] theorem enterError_globals (s : State) : (enterError s).globals = s.globals := rfl
@[simp] theorem enterError_windowed (s : State) : (enterError s).windowed = s.windowed := rfl
@[simp] theorem enterError_pc (s : State) : (enterError s).pc = s.pc := rfl
@[simp] theorem enterError_npc (s : State) : (enterError s).npc = s.npc := rfl
@[simp] theorem enterError_psr (s : State) : (enterError s).psr = s.psr := rfl
@[simp] theorem enterError_wim (s : State) : (enterError s).wim = s.wim := rfl
@[simp] theorem enterError_tba (s : State) : (enterError s).tba = s.tba := rfl
@[simp] theorem enterError_tt (s : State) : (enterError s).tt = s.tt := rfl
@[simp] theorem enterError_y (s : State) : (enterError s).y = s.y := rfl
@[simp] theorem enterError_mode (s : State) : (enterError s).mode = .error := rfl
@[simp] theorem enterError_psrDelay (s : State) : (enterError s).psrDelay = s.psrDelay := rfl
@[simp] theorem enterError_wimDelay (s : State) : (enterError s).wimDelay = s.wimDelay := rfl
@[simp] theorem enterError_tbrDelay (s : State) : (enterError s).tbrDelay = s.tbrDelay := rfl
@[simp] theorem enterError_yDelay (s : State) : (enterError s).yDelay = s.yDelay := rfl
@[simp] theorem enterError_stale (s : State) : (enterError s).stale = s.stale := rfl
@[simp] theorem enterError_afterJmpl (s : State) : (enterError s).afterJmpl = s.afterJmpl := rfl
@[simp] theorem enterError_mem (s : State) : (enterError s).mem = s.mem := rfl
@[simp] theorem enterError_spaces (s : State) : (enterError s).spaces = s.spaces := rfl
@[simp] theorem enterError_tc (s : State) : (enterError s).tc = s.tc := rfl
@[simp] theorem enterError_fpuPresent (s : State) : (enterError s).fpuPresent = s.fpuPresent := rfl
@[simp] theorem enterError_fexc (s : State) : (enterError s).fexc = s.fexc := rfl
@[simp] theorem enterError_fcc (s : State) : (enterError s).fcc = s.fcc := rfl
@[simp] theorem enterError_fpuOut (s : State) : (enterError s).fpuOut = s.fpuOut := rfl
@[simp] theorem enterError_bus (s : State) : (enterError s).bus = s.bus := rfl
@[simp] theorem enterError_busOut (s : State) : (enterError s).busOut = s.busOut := rfl
@[simp] theorem enterError_inputs (s : State) : (enterError s).inputs = s.inputs := rfl
@[simp] theorem enterError_free (s : State) : (enterError s).free = s.free := rfl

@[simp] theorem assertReset_globals (s : State) : (assertReset s).globals = s.globals := rfl
@[simp] theorem assertReset_windowed (s : State) : (assertReset s).windowed = s.windowed := rfl
@[simp] theorem assertReset_pc (s : State) : (assertReset s).pc = s.pc := rfl
@[simp] theorem assertReset_npc (s : State) : (assertReset s).npc = s.npc := rfl
@[simp] theorem assertReset_psr (s : State) : (assertReset s).psr = s.psr := rfl
@[simp] theorem assertReset_wim (s : State) : (assertReset s).wim = s.wim := rfl
@[simp] theorem assertReset_tba (s : State) : (assertReset s).tba = s.tba := rfl
@[simp] theorem assertReset_tt (s : State) : (assertReset s).tt = s.tt := rfl
@[simp] theorem assertReset_y (s : State) : (assertReset s).y = s.y := rfl
@[simp] theorem assertReset_mode (s : State) : (assertReset s).mode = .reset := rfl
@[simp] theorem assertReset_psrDelay (s : State) : (assertReset s).psrDelay = s.psrDelay := rfl
@[simp] theorem assertReset_wimDelay (s : State) : (assertReset s).wimDelay = s.wimDelay := rfl
@[simp] theorem assertReset_tbrDelay (s : State) : (assertReset s).tbrDelay = s.tbrDelay := rfl
@[simp] theorem assertReset_yDelay (s : State) : (assertReset s).yDelay = s.yDelay := rfl
@[simp] theorem assertReset_stale (s : State) : (assertReset s).stale = s.stale := rfl
@[simp] theorem assertReset_afterJmpl (s : State) : (assertReset s).afterJmpl = s.afterJmpl := rfl
@[simp] theorem assertReset_mem (s : State) : (assertReset s).mem = s.mem := rfl
@[simp] theorem assertReset_spaces (s : State) : (assertReset s).spaces = s.spaces := rfl
@[simp] theorem assertReset_tc (s : State) : (assertReset s).tc = s.tc := rfl
@[simp] theorem assertReset_fpuPresent (s : State) : (assertReset s).fpuPresent = s.fpuPresent := rfl
@[simp] theorem assertReset_fexc (s : State) : (assertReset s).fexc = s.fexc := rfl
@[simp] theorem assertReset_fcc (s : State) : (assertReset s).fcc = s.fcc := rfl
@[simp] theorem assertReset_fpuOut (s : State) : (assertReset s).fpuOut = s.fpuOut := rfl
@[simp] theorem assertReset_bus (s : State) : (assertReset s).bus = s.bus := rfl
@[simp] theorem assertReset_busOut (s : State) : (assertReset s).busOut = s.busOut := rfl
@[simp] theorem assertReset_inputs (s : State) : (assertReset s).inputs = s.inputs := rfl
@[simp] theorem assertReset_free (s : State) : (assertReset s).free = s.free := rfl

@[simp] theorem releaseReset_globals (s : State) : (releaseReset s).globals = s.globals := rfl
@[simp] theorem releaseReset_windowed (s : State) : (releaseReset s).windowed = s.windowed := rfl
@[simp] theorem releaseReset_pc (s : State) : (releaseReset s).pc = 0 := rfl
@[simp] theorem releaseReset_npc (s : State) : (releaseReset s).npc = 4 := rfl
@[simp] theorem releaseReset_psr (s : State) :
    (releaseReset s).psr = { s.psr with s := true, et := false } := rfl
@[simp] theorem releaseReset_wim (s : State) : (releaseReset s).wim = s.wim := rfl
@[simp] theorem releaseReset_tba (s : State) : (releaseReset s).tba = s.tba := rfl
@[simp] theorem releaseReset_tt (s : State) : (releaseReset s).tt = s.tt := rfl
@[simp] theorem releaseReset_y (s : State) : (releaseReset s).y = s.y := rfl
@[simp] theorem releaseReset_mode (s : State) : (releaseReset s).mode = .execute := rfl
@[simp] theorem releaseReset_psrDelay (s : State) : (releaseReset s).psrDelay = PsrDelay.closed := rfl
@[simp] theorem releaseReset_wimDelay (s : State) : (releaseReset s).wimDelay = 0 := rfl
@[simp] theorem releaseReset_tbrDelay (s : State) : (releaseReset s).tbrDelay = TbrDelay.closed := rfl
@[simp] theorem releaseReset_yDelay (s : State) : (releaseReset s).yDelay = 0 := rfl
@[simp] theorem releaseReset_stale (s : State) : (releaseReset s).stale = s.stale := rfl
@[simp] theorem releaseReset_afterJmpl (s : State) : (releaseReset s).afterJmpl = false := rfl
@[simp] theorem releaseReset_mem (s : State) : (releaseReset s).mem = s.mem := rfl
@[simp] theorem releaseReset_spaces (s : State) : (releaseReset s).spaces = s.spaces := rfl
@[simp] theorem releaseReset_tc (s : State) : (releaseReset s).tc = s.tc := rfl
@[simp] theorem releaseReset_fpuPresent (s : State) : (releaseReset s).fpuPresent = s.fpuPresent := rfl
@[simp] theorem releaseReset_fexc (s : State) : (releaseReset s).fexc = s.fexc := rfl
@[simp] theorem releaseReset_fcc (s : State) : (releaseReset s).fcc = s.fcc := rfl
@[simp] theorem releaseReset_fpuOut (s : State) : (releaseReset s).fpuOut = s.fpuOut := rfl
@[simp] theorem releaseReset_bus (s : State) : (releaseReset s).bus = s.bus := rfl
@[simp] theorem releaseReset_busOut (s : State) : (releaseReset s).busOut = s.busOut := rfl
@[simp] theorem releaseReset_inputs (s : State) : (releaseReset s).inputs = s.inputs := rfl
@[simp] theorem releaseReset_free (s : State) : (releaseReset s).free = s.free := rfl

@[simp] theorem trapEntry_pc (k : BitVec 8) (s : State) :
    (trapEntry k s).pc = trapBase s ++ k ++ 0#4 := by simp [trapEntry]
@[simp] theorem trapEntry_npc (k : BitVec 8) (s : State) :
    (trapEntry k s).npc = (trapBase s ++ k ++ 0#4 : Word) + 4 := by simp [trapEntry]
@[simp] theorem trapEntry_psr (k : BitVec 8) (s : State) :
    (trapEntry k s).psr = { s.psr with et := false, ps := s.psr.s, s := true, cwp := prevWindow s.psr.cwp } := by
  simp [trapEntry]
@[simp] theorem trapEntry_wim (k : BitVec 8) (s : State) : (trapEntry k s).wim = s.wim := by simp [trapEntry]
@[simp] theorem trapEntry_tba (k : BitVec 8) (s : State) : (trapEntry k s).tba = s.tba := by simp [trapEntry]
@[simp] theorem trapEntry_tt (k : BitVec 8) (s : State) : (trapEntry k s).tt = k := by simp [trapEntry]
@[simp] theorem trapEntry_y (k : BitVec 8) (s : State) : (trapEntry k s).y = s.y := by simp [trapEntry]
@[simp] theorem trapEntry_mode (k : BitVec 8) (s : State) :
    (trapEntry k s).mode = s.mode := by simp [trapEntry]
@[simp] theorem trapEntry_psrDelay (k : BitVec 8) (s : State) :
    (trapEntry k s).psrDelay = PsrDelay.closed := by simp [trapEntry]
@[simp] theorem trapEntry_wimDelay (k : BitVec 8) (s : State) :
    (trapEntry k s).wimDelay = 0 := by simp [trapEntry]
@[simp] theorem trapEntry_tbrDelay (k : BitVec 8) (s : State) :
    (trapEntry k s).tbrDelay = TbrDelay.closed := by simp [trapEntry]
@[simp] theorem trapEntry_yDelay (k : BitVec 8) (s : State) :
    (trapEntry k s).yDelay = 0 := by simp [trapEntry]
@[simp] theorem trapEntry_stale (k : BitVec 8) (s : State) :
    (trapEntry k s).stale = s.stale := by simp [trapEntry]
@[simp] theorem trapEntry_afterJmpl (k : BitVec 8) (s : State) :
    (trapEntry k s).afterJmpl = false := by simp [trapEntry]
@[simp] theorem trapEntry_mem (k : BitVec 8) (s : State) : (trapEntry k s).mem = s.mem := by simp [trapEntry]
@[simp] theorem trapEntry_spaces (k : BitVec 8) (s : State) :
    (trapEntry k s).spaces = s.spaces := by simp [trapEntry]
@[simp] theorem trapEntry_tc (k : BitVec 8) (s : State) : (trapEntry k s).tc = s.tc := by simp [trapEntry]
@[simp] theorem trapEntry_fpuPresent (k : BitVec 8) (s : State) :
    (trapEntry k s).fpuPresent = s.fpuPresent := by simp [trapEntry]
@[simp] theorem trapEntry_fexc (k : BitVec 8) (s : State) :
    (trapEntry k s).fexc = s.fexc := by simp [trapEntry]
@[simp] theorem trapEntry_fcc (k : BitVec 8) (s : State) : (trapEntry k s).fcc = s.fcc := by simp [trapEntry]
@[simp] theorem trapEntry_fpuOut (k : BitVec 8) (s : State) :
    (trapEntry k s).fpuOut = s.fpuOut := by simp [trapEntry]
@[simp] theorem trapEntry_bus (k : BitVec 8) (s : State) : (trapEntry k s).bus = s.bus := by simp [trapEntry]
@[simp] theorem trapEntry_busOut (k : BitVec 8) (s : State) : (trapEntry k s).busOut = s.busOut := by simp [trapEntry]
@[simp] theorem trapEntry_inputs (k : BitVec 8) (s : State) :
    (trapEntry k s).inputs = s.inputs := by simp [trapEntry]
@[simp] theorem trapEntry_free (k : BitVec 8) (s : State) :
    (trapEntry k s).free = s.free + 1 := by simp [trapEntry]

@[simp] theorem failReturn_globals (k : Trap) (s : State) : (failReturn k s).globals = s.globals := rfl
@[simp] theorem failReturn_windowed (k : Trap) (s : State) : (failReturn k s).windowed = s.windowed := rfl
@[simp] theorem failReturn_pc (k : Trap) (s : State) : (failReturn k s).pc = s.pc := rfl
@[simp] theorem failReturn_npc (k : Trap) (s : State) : (failReturn k s).npc = s.npc := rfl
@[simp] theorem failReturn_psr (k : Trap) (s : State) : (failReturn k s).psr = s.psr := rfl
@[simp] theorem failReturn_wim (k : Trap) (s : State) : (failReturn k s).wim = s.wim := rfl
@[simp] theorem failReturn_tba (k : Trap) (s : State) : (failReturn k s).tba = s.tba := rfl
@[simp] theorem failReturn_tt (k : Trap) (s : State) : (failReturn k s).tt = trapType k := rfl
@[simp] theorem failReturn_y (k : Trap) (s : State) : (failReturn k s).y = s.y := rfl
@[simp] theorem failReturn_mode (k : Trap) (s : State) : (failReturn k s).mode = .error := rfl
@[simp] theorem failReturn_psrDelay (k : Trap) (s : State) : (failReturn k s).psrDelay = s.psrDelay := rfl
@[simp] theorem failReturn_wimDelay (k : Trap) (s : State) : (failReturn k s).wimDelay = s.wimDelay := rfl
@[simp] theorem failReturn_tbrDelay (k : Trap) (s : State) : (failReturn k s).tbrDelay = s.tbrDelay := rfl
@[simp] theorem failReturn_yDelay (k : Trap) (s : State) : (failReturn k s).yDelay = s.yDelay := rfl
@[simp] theorem failReturn_stale (k : Trap) (s : State) : (failReturn k s).stale = s.stale := rfl
@[simp] theorem failReturn_afterJmpl (k : Trap) (s : State) : (failReturn k s).afterJmpl = s.afterJmpl := rfl
@[simp] theorem failReturn_mem (k : Trap) (s : State) : (failReturn k s).mem = s.mem := rfl
@[simp] theorem failReturn_spaces (k : Trap) (s : State) : (failReturn k s).spaces = s.spaces := rfl
@[simp] theorem failReturn_tc (k : Trap) (s : State) : (failReturn k s).tc = s.tc := rfl
@[simp] theorem failReturn_fpuPresent (k : Trap) (s : State) :
    (failReturn k s).fpuPresent = s.fpuPresent := rfl
@[simp] theorem failReturn_fexc (k : Trap) (s : State) : (failReturn k s).fexc = s.fexc := rfl
@[simp] theorem failReturn_fcc (k : Trap) (s : State) : (failReturn k s).fcc = s.fcc := rfl
@[simp] theorem failReturn_fpuOut (k : Trap) (s : State) : (failReturn k s).fpuOut = s.fpuOut := rfl
@[simp] theorem failReturn_bus (k : Trap) (s : State) : (failReturn k s).bus = s.bus := rfl
@[simp] theorem failReturn_busOut (k : Trap) (s : State) : (failReturn k s).busOut = s.busOut := rfl
@[simp] theorem failReturn_inputs (k : Trap) (s : State) : (failReturn k s).inputs = s.inputs := rfl
@[simp] theorem failReturn_free (k : Trap) (s : State) : (failReturn k s).free = s.free := rfl

@[simp] theorem returnFromTrap_globals (a : Word) (s : State) :
    (returnFromTrap a s).globals = s.globals := rfl
@[simp] theorem returnFromTrap_windowed (a : Word) (s : State) :
    (returnFromTrap a s).windowed = s.windowed := rfl
@[simp] theorem returnFromTrap_pc (a : Word) (s : State) : (returnFromTrap a s).pc = s.npc := rfl
@[simp] theorem returnFromTrap_npc (a : Word) (s : State) : (returnFromTrap a s).npc = a := rfl
@[simp] theorem returnFromTrap_psr (a : Word) (s : State) :
    (returnFromTrap a s).psr = { s.psr with cwp := nextWindow s.psr.cwp, s := s.psr.ps, et := true } := rfl
@[simp] theorem returnFromTrap_wim (a : Word) (s : State) : (returnFromTrap a s).wim = s.wim := rfl
@[simp] theorem returnFromTrap_tba (a : Word) (s : State) : (returnFromTrap a s).tba = s.tba := rfl
@[simp] theorem returnFromTrap_tt (a : Word) (s : State) : (returnFromTrap a s).tt = s.tt := rfl
@[simp] theorem returnFromTrap_y (a : Word) (s : State) : (returnFromTrap a s).y = s.y := rfl
@[simp] theorem returnFromTrap_mode (a : Word) (s : State) : (returnFromTrap a s).mode = s.mode := rfl
@[simp] theorem returnFromTrap_psrDelay (a : Word) (s : State) :
    (returnFromTrap a s).psrDelay = s.psrDelay.tick := rfl
@[simp] theorem returnFromTrap_wimDelay (a : Word) (s : State) :
    (returnFromTrap a s).wimDelay = s.wimDelay - 1 := rfl
@[simp] theorem returnFromTrap_tbrDelay (a : Word) (s : State) :
    (returnFromTrap a s).tbrDelay = s.tbrDelay.tick := rfl
@[simp] theorem returnFromTrap_yDelay (a : Word) (s : State) :
    (returnFromTrap a s).yDelay = s.yDelay - 1 := rfl
@[simp] theorem returnFromTrap_stale (a : Word) (s : State) :
    (returnFromTrap a s).stale = ageStale s.stale := rfl
@[simp] theorem returnFromTrap_afterJmpl (a : Word) (s : State) :
    (returnFromTrap a s).afterJmpl = false := rfl
@[simp] theorem returnFromTrap_mem (a : Word) (s : State) : (returnFromTrap a s).mem = s.mem := rfl
@[simp] theorem returnFromTrap_spaces (a : Word) (s : State) : (returnFromTrap a s).spaces = s.spaces := rfl
@[simp] theorem returnFromTrap_tc (a : Word) (s : State) : (returnFromTrap a s).tc = s.tc := rfl
@[simp] theorem returnFromTrap_fpuPresent (a : Word) (s : State) :
    (returnFromTrap a s).fpuPresent = s.fpuPresent := rfl
@[simp] theorem returnFromTrap_fexc (a : Word) (s : State) : (returnFromTrap a s).fexc = s.fexc := rfl
@[simp] theorem returnFromTrap_fcc (a : Word) (s : State) : (returnFromTrap a s).fcc = s.fcc := rfl
@[simp] theorem returnFromTrap_fpuOut (a : Word) (s : State) : (returnFromTrap a s).fpuOut = s.fpuOut := rfl
@[simp] theorem returnFromTrap_bus (a : Word) (s : State) : (returnFromTrap a s).bus = s.bus := rfl
@[simp] theorem returnFromTrap_busOut (a : Word) (s : State) : (returnFromTrap a s).busOut = s.busOut := rfl
@[simp] theorem returnFromTrap_inputs (a : Word) (s : State) : (returnFromTrap a s).inputs = s.inputs := rfl
@[simp] theorem returnFromTrap_free (a : Word) (s : State) : (returnFromTrap a s).free = s.free + 1 := rfl

@[simp] theorem writePsr_globals (p : Psr) (s : State) : (writePsr p s).globals = s.globals := rfl
@[simp] theorem writePsr_windowed (p : Psr) (s : State) : (writePsr p s).windowed = s.windowed := rfl
@[simp] theorem writePsr_pc (p : Psr) (s : State) : (writePsr p s).pc = s.npc := rfl
@[simp] theorem writePsr_npc (p : Psr) (s : State) : (writePsr p s).npc = s.npc + 4 := rfl
@[simp] theorem writePsr_psr (p : Psr) (s : State) : (writePsr p s).psr = p := rfl
@[simp] theorem writePsr_wim (p : Psr) (s : State) : (writePsr p s).wim = s.wim := rfl
@[simp] theorem writePsr_tba (p : Psr) (s : State) : (writePsr p s).tba = s.tba := rfl
@[simp] theorem writePsr_tt (p : Psr) (s : State) : (writePsr p s).tt = s.tt := rfl
@[simp] theorem writePsr_y (p : Psr) (s : State) : (writePsr p s).y = s.y := rfl
@[simp] theorem writePsr_mode (p : Psr) (s : State) : (writePsr p s).mode = s.mode := rfl
@[simp] theorem writePsr_psrDelay (p : Psr) (s : State) : (writePsr p s).psrDelay = openPsrDelay s p := rfl
@[simp] theorem writePsr_wimDelay (p : Psr) (s : State) : (writePsr p s).wimDelay = s.wimDelay - 1 := rfl
@[simp] theorem writePsr_tbrDelay (p : Psr) (s : State) : (writePsr p s).tbrDelay = s.tbrDelay.tick := rfl
@[simp] theorem writePsr_yDelay (p : Psr) (s : State) : (writePsr p s).yDelay = s.yDelay - 1 := rfl
@[simp] theorem writePsr_stale (p : Psr) (s : State) : (writePsr p s).stale = ageStale s.stale := rfl
@[simp] theorem writePsr_afterJmpl (p : Psr) (s : State) : (writePsr p s).afterJmpl = false := rfl
@[simp] theorem writePsr_mem (p : Psr) (s : State) : (writePsr p s).mem = s.mem := rfl
@[simp] theorem writePsr_spaces (p : Psr) (s : State) : (writePsr p s).spaces = s.spaces := rfl
@[simp] theorem writePsr_tc (p : Psr) (s : State) : (writePsr p s).tc = s.tc := rfl
@[simp] theorem writePsr_fpuPresent (p : Psr) (s : State) : (writePsr p s).fpuPresent = s.fpuPresent := rfl
@[simp] theorem writePsr_fexc (p : Psr) (s : State) : (writePsr p s).fexc = s.fexc := rfl
@[simp] theorem writePsr_fcc (p : Psr) (s : State) : (writePsr p s).fcc = s.fcc := rfl
@[simp] theorem writePsr_fpuOut (p : Psr) (s : State) : (writePsr p s).fpuOut = s.fpuOut := rfl
@[simp] theorem writePsr_bus (p : Psr) (s : State) : (writePsr p s).bus = s.bus := rfl
@[simp] theorem writePsr_busOut (p : Psr) (s : State) : (writePsr p s).busOut = s.busOut := rfl
@[simp] theorem writePsr_inputs (p : Psr) (s : State) : (writePsr p s).inputs = s.inputs := rfl
@[simp] theorem writePsr_free (p : Psr) (s : State) : (writePsr p s).free = s.free + 1 := rfl

@[simp] theorem writeY_globals (v : Word) (s : State) : (writeY v s).globals = s.globals := rfl
@[simp] theorem writeY_windowed (v : Word) (s : State) : (writeY v s).windowed = s.windowed := rfl
@[simp] theorem writeY_pc (v : Word) (s : State) : (writeY v s).pc = s.npc := rfl
@[simp] theorem writeY_npc (v : Word) (s : State) : (writeY v s).npc = s.npc + 4 := rfl
@[simp] theorem writeY_psr (v : Word) (s : State) : (writeY v s).psr = s.psr := rfl
@[simp] theorem writeY_wim (v : Word) (s : State) : (writeY v s).wim = s.wim := rfl
@[simp] theorem writeY_tba (v : Word) (s : State) : (writeY v s).tba = s.tba := rfl
@[simp] theorem writeY_tt (v : Word) (s : State) : (writeY v s).tt = s.tt := rfl
@[simp] theorem writeY_y (v : Word) (s : State) : (writeY v s).y = v := rfl
@[simp] theorem writeY_mode (v : Word) (s : State) : (writeY v s).mode = s.mode := rfl
@[simp] theorem writeY_psrDelay (v : Word) (s : State) : (writeY v s).psrDelay = s.psrDelay.tick := rfl
@[simp] theorem writeY_wimDelay (v : Word) (s : State) : (writeY v s).wimDelay = s.wimDelay - 1 := rfl
@[simp] theorem writeY_tbrDelay (v : Word) (s : State) : (writeY v s).tbrDelay = s.tbrDelay.tick := rfl
@[simp] theorem writeY_yDelay (v : Word) (s : State) : (writeY v s).yDelay = 3 := rfl
@[simp] theorem writeY_stale (v : Word) (s : State) : (writeY v s).stale = ageStale s.stale := rfl
@[simp] theorem writeY_afterJmpl (v : Word) (s : State) : (writeY v s).afterJmpl = false := rfl
@[simp] theorem writeY_mem (v : Word) (s : State) : (writeY v s).mem = s.mem := rfl
@[simp] theorem writeY_spaces (v : Word) (s : State) : (writeY v s).spaces = s.spaces := rfl
@[simp] theorem writeY_tc (v : Word) (s : State) : (writeY v s).tc = s.tc := rfl
@[simp] theorem writeY_fpuPresent (v : Word) (s : State) : (writeY v s).fpuPresent = s.fpuPresent := rfl
@[simp] theorem writeY_fexc (v : Word) (s : State) : (writeY v s).fexc = s.fexc := rfl
@[simp] theorem writeY_fcc (v : Word) (s : State) : (writeY v s).fcc = s.fcc := rfl
@[simp] theorem writeY_fpuOut (v : Word) (s : State) : (writeY v s).fpuOut = s.fpuOut := rfl
@[simp] theorem writeY_bus (v : Word) (s : State) : (writeY v s).bus = s.bus := rfl
@[simp] theorem writeY_busOut (v : Word) (s : State) : (writeY v s).busOut = s.busOut := rfl
@[simp] theorem writeY_inputs (v : Word) (s : State) : (writeY v s).inputs = s.inputs := rfl
@[simp] theorem writeY_free (v : Word) (s : State) : (writeY v s).free = s.free + 1 := rfl

@[simp] theorem writeWim_globals (v : Word) (s : State) : (writeWim v s).globals = s.globals := rfl
@[simp] theorem writeWim_windowed (v : Word) (s : State) : (writeWim v s).windowed = s.windowed := rfl
@[simp] theorem writeWim_pc (v : Word) (s : State) : (writeWim v s).pc = s.npc := rfl
@[simp] theorem writeWim_npc (v : Word) (s : State) : (writeWim v s).npc = s.npc + 4 := rfl
@[simp] theorem writeWim_psr (v : Word) (s : State) : (writeWim v s).psr = s.psr := rfl
@[simp] theorem writeWim_wim (v : Word) (s : State) : (writeWim v s).wim = v.extractLsb' 0 7 := rfl
@[simp] theorem writeWim_tba (v : Word) (s : State) : (writeWim v s).tba = s.tba := rfl
@[simp] theorem writeWim_tt (v : Word) (s : State) : (writeWim v s).tt = s.tt := rfl
@[simp] theorem writeWim_y (v : Word) (s : State) : (writeWim v s).y = s.y := rfl
@[simp] theorem writeWim_mode (v : Word) (s : State) : (writeWim v s).mode = s.mode := rfl
@[simp] theorem writeWim_psrDelay (v : Word) (s : State) : (writeWim v s).psrDelay = s.psrDelay.tick := rfl
@[simp] theorem writeWim_wimDelay (v : Word) (s : State) : (writeWim v s).wimDelay = 3 := rfl
@[simp] theorem writeWim_tbrDelay (v : Word) (s : State) : (writeWim v s).tbrDelay = s.tbrDelay.tick := rfl
@[simp] theorem writeWim_yDelay (v : Word) (s : State) : (writeWim v s).yDelay = s.yDelay - 1 := rfl
@[simp] theorem writeWim_stale (v : Word) (s : State) : (writeWim v s).stale = ageStale s.stale := rfl
@[simp] theorem writeWim_afterJmpl (v : Word) (s : State) : (writeWim v s).afterJmpl = false := rfl
@[simp] theorem writeWim_mem (v : Word) (s : State) : (writeWim v s).mem = s.mem := rfl
@[simp] theorem writeWim_spaces (v : Word) (s : State) : (writeWim v s).spaces = s.spaces := rfl
@[simp] theorem writeWim_tc (v : Word) (s : State) : (writeWim v s).tc = s.tc := rfl
@[simp] theorem writeWim_fpuPresent (v : Word) (s : State) : (writeWim v s).fpuPresent = s.fpuPresent := rfl
@[simp] theorem writeWim_fexc (v : Word) (s : State) : (writeWim v s).fexc = s.fexc := rfl
@[simp] theorem writeWim_fcc (v : Word) (s : State) : (writeWim v s).fcc = s.fcc := rfl
@[simp] theorem writeWim_fpuOut (v : Word) (s : State) : (writeWim v s).fpuOut = s.fpuOut := rfl
@[simp] theorem writeWim_bus (v : Word) (s : State) : (writeWim v s).bus = s.bus := rfl
@[simp] theorem writeWim_busOut (v : Word) (s : State) : (writeWim v s).busOut = s.busOut := rfl
@[simp] theorem writeWim_inputs (v : Word) (s : State) : (writeWim v s).inputs = s.inputs := rfl
@[simp] theorem writeWim_free (v : Word) (s : State) : (writeWim v s).free = s.free + 1 := rfl

@[simp] theorem writeTbr_globals (v : Word) (s : State) : (writeTbr v s).globals = s.globals := rfl
@[simp] theorem writeTbr_windowed (v : Word) (s : State) : (writeTbr v s).windowed = s.windowed := rfl
@[simp] theorem writeTbr_pc (v : Word) (s : State) : (writeTbr v s).pc = s.npc := rfl
@[simp] theorem writeTbr_npc (v : Word) (s : State) : (writeTbr v s).npc = s.npc + 4 := rfl
@[simp] theorem writeTbr_psr (v : Word) (s : State) : (writeTbr v s).psr = s.psr := rfl
@[simp] theorem writeTbr_wim (v : Word) (s : State) : (writeTbr v s).wim = s.wim := rfl
@[simp] theorem writeTbr_tba (v : Word) (s : State) : (writeTbr v s).tba = v.extractLsb' 12 20 := rfl
@[simp] theorem writeTbr_tt (v : Word) (s : State) : (writeTbr v s).tt = s.tt := rfl
@[simp] theorem writeTbr_y (v : Word) (s : State) : (writeTbr v s).y = s.y := rfl
@[simp] theorem writeTbr_mode (v : Word) (s : State) : (writeTbr v s).mode = s.mode := rfl
@[simp] theorem writeTbr_psrDelay (v : Word) (s : State) : (writeTbr v s).psrDelay = s.psrDelay.tick := rfl
@[simp] theorem writeTbr_wimDelay (v : Word) (s : State) : (writeTbr v s).wimDelay = s.wimDelay - 1 := rfl
@[simp] theorem writeTbr_tbrDelay (v : Word) (s : State) : (writeTbr v s).tbrDelay = ⟨3, s.tba⟩ := rfl
@[simp] theorem writeTbr_yDelay (v : Word) (s : State) : (writeTbr v s).yDelay = s.yDelay - 1 := rfl
@[simp] theorem writeTbr_stale (v : Word) (s : State) : (writeTbr v s).stale = ageStale s.stale := rfl
@[simp] theorem writeTbr_afterJmpl (v : Word) (s : State) : (writeTbr v s).afterJmpl = false := rfl
@[simp] theorem writeTbr_mem (v : Word) (s : State) : (writeTbr v s).mem = s.mem := rfl
@[simp] theorem writeTbr_spaces (v : Word) (s : State) : (writeTbr v s).spaces = s.spaces := rfl
@[simp] theorem writeTbr_tc (v : Word) (s : State) : (writeTbr v s).tc = s.tc := rfl
@[simp] theorem writeTbr_fpuPresent (v : Word) (s : State) : (writeTbr v s).fpuPresent = s.fpuPresent := rfl
@[simp] theorem writeTbr_fexc (v : Word) (s : State) : (writeTbr v s).fexc = s.fexc := rfl
@[simp] theorem writeTbr_fcc (v : Word) (s : State) : (writeTbr v s).fcc = s.fcc := rfl
@[simp] theorem writeTbr_fpuOut (v : Word) (s : State) : (writeTbr v s).fpuOut = s.fpuOut := rfl
@[simp] theorem writeTbr_bus (v : Word) (s : State) : (writeTbr v s).bus = s.bus := rfl
@[simp] theorem writeTbr_busOut (v : Word) (s : State) : (writeTbr v s).busOut = s.busOut := rfl
@[simp] theorem writeTbr_inputs (v : Word) (s : State) : (writeTbr v s).inputs = s.inputs := rfl
@[simp] theorem writeTbr_free (v : Word) (s : State) : (writeTbr v s).free = s.free + 1 := rfl

@[simp] theorem moveWindow_pc (w : WindowNum) (rd rs1 : RegNum) (o : RegImm) (s : State) :
    (moveWindow w rd rs1 o s).pc = s.npc := by simp [moveWindow]
@[simp] theorem moveWindow_npc (w : WindowNum) (rd rs1 : RegNum) (o : RegImm) (s : State) :
    (moveWindow w rd rs1 o s).npc = s.npc + 4 := by simp [moveWindow]
@[simp] theorem moveWindow_psr (w : WindowNum) (rd rs1 : RegNum) (o : RegImm) (s : State) :
    (moveWindow w rd rs1 o s).psr = { s.psr with cwp := w } := by simp [moveWindow]
@[simp] theorem moveWindow_wim (w : WindowNum) (rd rs1 : RegNum) (o : RegImm) (s : State) :
    (moveWindow w rd rs1 o s).wim = s.wim := by simp [moveWindow]
@[simp] theorem moveWindow_tba (w : WindowNum) (rd rs1 : RegNum) (o : RegImm) (s : State) :
    (moveWindow w rd rs1 o s).tba = s.tba := by simp [moveWindow]
@[simp] theorem moveWindow_tt (w : WindowNum) (rd rs1 : RegNum) (o : RegImm) (s : State) :
    (moveWindow w rd rs1 o s).tt = s.tt := by simp [moveWindow]
@[simp] theorem moveWindow_y (w : WindowNum) (rd rs1 : RegNum) (o : RegImm) (s : State) :
    (moveWindow w rd rs1 o s).y = s.y := by simp [moveWindow]
@[simp] theorem moveWindow_mode (w : WindowNum) (rd rs1 : RegNum) (o : RegImm) (s : State) :
    (moveWindow w rd rs1 o s).mode = s.mode := by simp [moveWindow]
@[simp] theorem moveWindow_psrDelay (w : WindowNum) (rd rs1 : RegNum) (o : RegImm) (s : State) :
    (moveWindow w rd rs1 o s).psrDelay = s.psrDelay.tick := by simp [moveWindow]
@[simp] theorem moveWindow_wimDelay (w : WindowNum) (rd rs1 : RegNum) (o : RegImm) (s : State) :
    (moveWindow w rd rs1 o s).wimDelay = s.wimDelay - 1 := by simp [moveWindow]
@[simp] theorem moveWindow_tbrDelay (w : WindowNum) (rd rs1 : RegNum) (o : RegImm) (s : State) :
    (moveWindow w rd rs1 o s).tbrDelay = s.tbrDelay.tick := by simp [moveWindow]
@[simp] theorem moveWindow_yDelay (w : WindowNum) (rd rs1 : RegNum) (o : RegImm) (s : State) :
    (moveWindow w rd rs1 o s).yDelay = s.yDelay - 1 := by simp [moveWindow]
@[simp] theorem moveWindow_stale (w : WindowNum) (rd rs1 : RegNum) (o : RegImm) (s : State) :
    (moveWindow w rd rs1 o s).stale = ageStale s.stale := by simp [moveWindow]
@[simp] theorem moveWindow_afterJmpl (w : WindowNum) (rd rs1 : RegNum) (o : RegImm) (s : State) :
    (moveWindow w rd rs1 o s).afterJmpl = false := by simp [moveWindow]
@[simp] theorem moveWindow_mem (w : WindowNum) (rd rs1 : RegNum) (o : RegImm) (s : State) :
    (moveWindow w rd rs1 o s).mem = s.mem := by simp [moveWindow]
@[simp] theorem moveWindow_spaces (w : WindowNum) (rd rs1 : RegNum) (o : RegImm) (s : State) :
    (moveWindow w rd rs1 o s).spaces = s.spaces := by simp [moveWindow]
@[simp] theorem moveWindow_tc (w : WindowNum) (rd rs1 : RegNum) (o : RegImm) (s : State) :
    (moveWindow w rd rs1 o s).tc = s.tc := by simp [moveWindow]
@[simp] theorem moveWindow_fpuPresent (w : WindowNum) (rd rs1 : RegNum) (o : RegImm) (s : State) :
    (moveWindow w rd rs1 o s).fpuPresent = s.fpuPresent := by simp [moveWindow]
@[simp] theorem moveWindow_fexc (w : WindowNum) (rd rs1 : RegNum) (o : RegImm) (s : State) :
    (moveWindow w rd rs1 o s).fexc = s.fexc := by simp [moveWindow]
@[simp] theorem moveWindow_fcc (w : WindowNum) (rd rs1 : RegNum) (o : RegImm) (s : State) :
    (moveWindow w rd rs1 o s).fcc = s.fcc := by simp [moveWindow]
@[simp] theorem moveWindow_fpuOut (w : WindowNum) (rd rs1 : RegNum) (o : RegImm) (s : State) :
    (moveWindow w rd rs1 o s).fpuOut = s.fpuOut := by simp [moveWindow]
@[simp] theorem moveWindow_bus (w : WindowNum) (rd rs1 : RegNum) (o : RegImm) (s : State) :
    (moveWindow w rd rs1 o s).bus = s.bus := by simp [moveWindow]
@[simp] theorem moveWindow_busOut (w : WindowNum) (rd rs1 : RegNum) (o : RegImm) (s : State) :
    (moveWindow w rd rs1 o s).busOut = s.busOut := by simp [moveWindow]
@[simp] theorem moveWindow_inputs (w : WindowNum) (rd rs1 : RegNum) (o : RegImm) (s : State) :
    (moveWindow w rd rs1 o s).inputs = s.inputs := by simp [moveWindow]
@[simp] theorem moveWindow_free (w : WindowNum) (rd rs1 : RegNum) (o : RegImm) (s : State) :
    (moveWindow w rd rs1 o s).free = s.free + 1 := by simp [moveWindow]

@[simp] theorem receiveInput_globals (s : State) : (receiveInput s).globals = s.globals := rfl
@[simp] theorem receiveInput_windowed (s : State) : (receiveInput s).windowed = s.windowed := rfl
@[simp] theorem receiveInput_pc (s : State) : (receiveInput s).pc = s.pc := rfl
@[simp] theorem receiveInput_npc (s : State) : (receiveInput s).npc = s.npc := rfl
@[simp] theorem receiveInput_psr (s : State) : (receiveInput s).psr = s.psr := rfl
@[simp] theorem receiveInput_wim (s : State) : (receiveInput s).wim = s.wim := rfl
@[simp] theorem receiveInput_tba (s : State) : (receiveInput s).tba = s.tba := rfl
@[simp] theorem receiveInput_tt (s : State) : (receiveInput s).tt = s.tt := rfl
@[simp] theorem receiveInput_y (s : State) : (receiveInput s).y = s.y := rfl
@[simp] theorem receiveInput_mode (s : State) : (receiveInput s).mode = s.mode := rfl
@[simp] theorem receiveInput_psrDelay (s : State) : (receiveInput s).psrDelay = s.psrDelay := rfl
@[simp] theorem receiveInput_wimDelay (s : State) : (receiveInput s).wimDelay = s.wimDelay := rfl
@[simp] theorem receiveInput_tbrDelay (s : State) : (receiveInput s).tbrDelay = s.tbrDelay := rfl
@[simp] theorem receiveInput_yDelay (s : State) : (receiveInput s).yDelay = s.yDelay := rfl
@[simp] theorem receiveInput_stale (s : State) : (receiveInput s).stale = s.stale := rfl
@[simp] theorem receiveInput_afterJmpl (s : State) : (receiveInput s).afterJmpl = s.afterJmpl := rfl
@[simp] theorem receiveInput_mem (s : State) :
    (receiveInput s).mem = s.mem.setCells (nextInput s).writes := rfl
@[simp] theorem receiveInput_spaces (s : State) : (receiveInput s).spaces = s.spaces := rfl
@[simp] theorem receiveInput_tc (s : State) : (receiveInput s).tc = s.tc := rfl
@[simp] theorem receiveInput_fpuPresent (s : State) : (receiveInput s).fpuPresent = s.fpuPresent := rfl
@[simp] theorem receiveInput_fexc (s : State) : (receiveInput s).fexc =
    if s.mode = .reset then (nextInput s).fexc else s.fexc || (nextInput s).fexc := rfl
@[simp] theorem receiveInput_fcc (s : State) : (receiveInput s).fcc = (nextInput s).fcc.getD s.fcc := rfl
@[simp] theorem receiveInput_fpuOut (s : State) : (receiveInput s).fpuOut = s.fpuOut := rfl
@[simp] theorem receiveInput_bus (s : State) : (receiveInput s).bus = s.bus := rfl
@[simp] theorem receiveInput_busOut (s : State) : (receiveInput s).busOut = s.busOut := rfl
@[simp] theorem receiveInput_inputs (s : State) : (receiveInput s).inputs = s.inputs.tail := rfl
@[simp] theorem receiveInput_free (s : State) : (receiveInput s).free = s.free := rfl

end Sys2Proof.Machine
end

