-- ==== Sys2Proof/Laws/Registers.lean ====
section
/-! SUPPORT. The r registers: a read after a write, and updates that leave every register alone. -/

namespace Sys2Proof.Machine

/-- A read depends on the two register arrays only. -/
theorem readHome_congr {s t : State} (hg : t.globals = s.globals) (hw : t.windowed = s.windowed) (h : RegHome) :
    readHome t h = readHome s h := by
  cases h <;> simp [readHome, hg, hw]

theorem readHome_writeHome_eq (s : State) {h : RegHome} (v : Word) (hz : h ≠ .zero) :
    readHome (writeHome s h v) h = v := by
  cases h with
  | zero => exact absurd rfl hz
  | global i => simp [readHome, writeHome]
  | windowed i => simp [readHome, writeHome]

theorem readHome_writeHome_ne (s : State) {g h : RegHome} (v : Word) (hn : g ≠ h) :
    readHome (writeHome s h v) g = readHome s g := by
  cases h with
  | zero => rfl
  | global i =>
    cases g with
    | zero => rfl
    | windowed j => rfl
    | global j =>
      have : i.val ≠ j.val := fun e => hn (by rw [Fin.ext e])
      simp [readHome, writeHome, Vector.getElem_set_ne, this]
  | windowed i =>
    cases g with
    | zero => rfl
    | global j => rfl
    | windowed j =>
      have : i.val ≠ j.val := fun e => hn (by rw [Fin.ext e])
      simp [readHome, writeHome, Vector.getElem_set_ne, this]

@[simp] theorem readHome_zero (s : State) : readHome s .zero = 0 := rfl

theorem readWin_writeWin_eq (s : State) (w : WindowNum) {n : RegNum} (v : Word) (h : home w n ≠ .zero) :
    readWin (writeWin s w n v) w n = v := readHome_writeHome_eq s v h

theorem readHome_writeWin_ne (s : State) (w : WindowNum) (n : RegNum) {g : RegHome} (v : Word)
    (h : g ≠ home w n) : readHome (writeWin s w n v) g = readHome s g := readHome_writeHome_ne s v h

/-- Only register number 0 leads nowhere. -/
theorem home_eq_zero {w : WindowNum} {n : RegNum} : home w n = .zero ↔ n = 0 := by
  unfold home
  simp only
  constructor
  · intro h
    split_ifs at h with h0
    exact BitVec.eq_of_toNat_eq (by simpa using h0)
  · rintro rfl; rfl

@[simp] theorem readHome_retire (s : State) (a b : Word) (h : RegHome) :
    readHome (retire s a b) h = readHome s h := by cases h <;> rfl
@[simp] theorem readHome_advance (s : State) (h : RegHome) : readHome (advance s) h = readHome s h := by
  cases h <;> rfl
@[simp] theorem readHome_delayedTo (s : State) (a : Word) (h : RegHome) :
    readHome (delayedTo s a) h = readHome s h := by cases h <;> rfl
@[simp] theorem readHome_writePlace (s : State) (p : Nat) (z : Size) (v : Word) (h : RegHome) :
    readHome (writePlace s p z v) h = readHome s h := by cases h <;> rfl
@[simp] theorem readHome_answerWrite (a : BusAnswer) (s : State) (asi : Asi) (ea : Word) (z : Size) (v : Word)
    (h : RegHome) : readHome (answerWrite a s asi ea z v) h = readHome s h := by cases a <;> simp [answerWrite]
@[simp] theorem readHome_afterAnswer (c : BusCycle) (s : State) (h : RegHome) :
    readHome (afterAnswer c s) h = readHome s h := by cases h <;> rfl
@[simp] theorem readHome_sendFpu (es : List FpuEvent) (s : State) (h : RegHome) :
    readHome (sendFpu es s) h = readHome s h := by cases h <;> rfl
@[simp] theorem readHome_enterError (s : State) (h : RegHome) : readHome (enterError s) h = readHome s h := by
  cases h <;> rfl
@[simp] theorem readHome_assertReset (s : State) (h : RegHome) : readHome (assertReset s) h = readHome s h := by
  cases h <;> rfl
@[simp] theorem readHome_releaseReset (s : State) (h : RegHome) : readHome (releaseReset s) h = readHome s h := by
  cases h <;> rfl
@[simp] theorem readHome_failReturn (k : Trap) (s : State) (h : RegHome) :
    readHome (failReturn k s) h = readHome s h := by cases h <;> rfl
@[simp] theorem readHome_returnFromTrap (a : Word) (s : State) (h : RegHome) :
    readHome (returnFromTrap a s) h = readHome s h := by cases h <;> rfl
@[simp] theorem readHome_receiveInput (s : State) (h : RegHome) : readHome (receiveInput s) h = readHome s h := by
  cases h <;> rfl
@[simp] theorem readHome_writePsr (p : Psr) (s : State) (h : RegHome) :
    readHome (writePsr p s) h = readHome s h := by cases h <;> rfl
@[simp] theorem readHome_writeY (v : Word) (s : State) (h : RegHome) :
    readHome (writeY v s) h = readHome s h := by cases h <;> rfl
@[simp] theorem readHome_writeWim (v : Word) (s : State) (h : RegHome) :
    readHome (writeWim v s) h = readHome s h := by cases h <;> rfl
@[simp] theorem readHome_writeTbr (v : Word) (s : State) (h : RegHome) :
    readHome (writeTbr v s) h = readHome s h := by cases h <;> rfl

/-- Trap entry writes the registers as two writes do (60_exceptions R431). -/
theorem readHome_trapEntry (k : BitVec 8) (s : State) (h : RegHome) :
    readHome (trapEntry k s) h =
      readHome (writeWin (writeWin s (prevWindow s.psr.cwp) 17 s.pc) (prevWindow s.psr.cwp) 18 s.npc) h := by
  cases h <;> rfl

/-- SAVE and RESTORE write one register of the new window (41_arith_logic_shift R270). -/
theorem readHome_moveWindow (w : WindowNum) (rd rs1 : RegNum) (o : RegImm) (s : State) (h : RegHome) :
    readHome (moveWindow w rd rs1 o s) h =
      readHome (writeWin (advance s) w rd (readReg s rs1 + opValue s o)) h := by
  cases h <;> rfl

end Sys2Proof.Machine
end

