-- ==== Sys2Proof/Laws/Operations.lean ====
section
/-! SUPPORT. What each shared operation can do: one lemma per operation, to be cited instead of unfolding it. -/

namespace Sys2Proof.Machine

/-! ### Unsettled registers -/

theorem live_settled {d : PsrDelay} (h : d.left = 0) : d.live = PsrFields.none := by simp [PsrDelay.live, h]

/-- With every window closed nothing is unsettled (43_state_registers R340). -/
theorem ready_settled (i : Instr) {s : State} (h : settled s) : ready i s := by
  obtain ⟨h1, h2, h3, h4⟩ := h
  simp [ready, unsettled, live_settled h1, PsrFields.meets, PsrFields.none, h2, h3, h4]

theorem unlessUnsettled_ready {i : Instr} {s : State} {act : Answer} (h : ready i s) :
    unlessUnsettled i s act = act := by
  have h : unsettled i s = none := h
  simp only [unlessUnsettled, h]

theorem unlessUnsettled_refused {i : Instr} {s : State} {act : Answer} {r : Refusal} (h : unsettled i s = some r) :
    unlessUnsettled i s act = .refused r := by simp only [unlessUnsettled, h]

/-- What goes on uses nothing that is unsettled (43_state_registers R340). -/
theorem unlessUnsettled_next {i : Instr} {s t : State} {act : Answer} (h : unlessUnsettled i s act = .next t) :
    ready i s ∧ act = .next t := by
  unfold unlessUnsettled at h
  cases hu : unsettled i s <;> simp only [hu] at h
  · exact ⟨hu, h⟩
  · cases h

/-- Every meaning refuses what is unsettled before it does anything (43_state_registers R340). -/
theorem exec_unlessUnsettled (i : Instr) (s : State) : ∃ act, exec i s = unlessUnsettled i s act := by
  cases i <;> exact ⟨_, rfl⟩

@[simp] theorem curWindow_afterAnswer (c : BusCycle) (s : State) : curWindow (afterAnswer c s) = curWindow s := rfl

/-! ### The bus -/

@[simp] theorem nextAnswer_receiveInput (s : State) : nextAnswer (receiveInput s) = nextAnswer s := rfl

/-- Where memory answers, the next transaction is answered by memory, and so are those after it. -/
theorem memoryAnswers_next {s : State} {k : Nat} (h : memoryAnswers s (k + 1)) (c : BusCycle) :
    nextAnswer s = .memory ∧ memoryAnswers (afterAnswer c s) k := by
  unfold memoryAnswers nextAnswer at *
  rw [afterAnswer_bus]
  cases hb : s.bus with
  | nil => simp
  | cons a rest => rw [hb] at h; simpa using h

/-- Everything a transaction can lead to, by its answer (20_memory R84, R107; 50_bus_signals R398). -/
theorem transact_cases (c : BusCycle) (s : State) (failed cut : State → Host.Outcome State Fault Refusal)
    (done : BusAnswer → State → Host.Outcome State Fault Refusal) :
    (nextAnswer s = .mexc ∧ transact c s failed cut done = failed (afterAnswer c s)) ∨
    (nextAnswer s = .reset ∧ transact c s failed cut done = cut (afterAnswer c s)) ∨
    (nextAnswer s = .held ∧ transact c s failed cut done = .fault .heldForever) ∨
    ((nextAnswer s = .memory ∨ ∃ d, nextAnswer s = .device d) ∧
      transact c s failed cut done = done (nextAnswer s) (afterAnswer c s)) := by
  unfold transact
  cases hA : nextAnswer s <;> simp

theorem transact_next {c : BusCycle} {s t : State} {failed cut : State → Host.Outcome State Fault Refusal}
    {done : BusAnswer → State → Host.Outcome State Fault Refusal} (h : transact c s failed cut done = .next t) :
    failed (afterAnswer c s) = .next t ∨ cut (afterAnswer c s) = .next t ∨
    ∃ a, (a = .memory ∨ ∃ d, a = .device d) ∧ done a (afterAnswer c s) = .next t := by
  rcases transact_cases c s failed cut done with ⟨_, e⟩ | ⟨_, e⟩ | ⟨_, e⟩ | ⟨ha, e⟩ <;> rw [e] at h
  · exact .inl h
  · exact .inr (.inl h)
  · cases h
  · exact .inr (.inr ⟨_, ha, h⟩)

theorem transact_memory {c : BusCycle} {s : State} {failed cut : State → Host.Outcome State Fault Refusal}
    {done : BusAnswer → State → Host.Outcome State Fault Refusal} (h : nextAnswer s = .memory) :
    transact c s failed cut done = done .memory (afterAnswer c s) := by simp only [transact, h]

@[simp] theorem madeCycles_nil (s t : State) : madeCycles s t [] ↔ t.bus = s.bus ∧ t.busOut = s.busOut := by
  simp [madeCycles]

/-- One transaction, as the statements spell it. -/
theorem afterAnswer_eq (c : BusCycle) (s : State) : afterAnswer c s = afterCycles s [c] := by
  simp [afterAnswer, afterCycles]

/-- Two transactions, as the statements spell them. -/
theorem afterAnswer_two (c d : BusCycle) (s : State) : afterAnswer d (afterAnswer c s) = afterCycles s [c, d] := by
  have h : s.bus.tail.tail = s.bus.drop 2 := by simp [← List.drop_one]
  simp [afterAnswer, afterCycles, h]

theorem cutByReset_next {s t : State} (h : cutByReset s = .next t) : t = assertReset s := by
  injection h with h; exact h.symm

/-! ### Writes of one register -/

theorem onlyRegister_writeWin {s u : State} (h : ∀ g, readHome u g = readHome s g) (w : WindowNum) (n : RegNum)
    (v : Word) : onlyRegister s (writeWin u w n v) (home w n) v :=
  ⟨fun hz => readHome_writeHome_eq u v hz, fun g hg => (readHome_writeWin_ne u w n v hg).trans (h g)⟩

theorem onlyRegister_congr {s u t : State} {d : RegHome} {v : Word} (h : onlyRegister s u d v)
    (e : ∀ g, readHome t g = readHome u g) : onlyRegister s t d v :=
  ⟨fun hz => (e d).trans (h.1 hz), fun g hg => (e g).trans (h.2 g hg)⟩

theorem onlyRegister_none {s t : State} (h : ∀ g, readHome t g = readHome s g) : onlyRegister s t .zero 0 :=
  ⟨fun hz => absurd rfl hz, fun g _ => h g⟩

/-! ### Traps -/

theorem enterTrap_settled {k : Trap} {s : State} (hs : s.psrDelay.live.s = false) (hw : s.psrDelay.live.cwp = false) :
    enterTrap k s = .next (trapEntry (trapType k) s) := by simp [enterTrap, hs, hw]

/-- Everything the entry of a trap can do (43_state_registers R341, R342). -/
theorem enterTrap_next {k : Trap} {s t : State} (h : enterTrap k s = .next t) :
    s.psrDelay.live.s = false ∧ s.psrDelay.live.cwp = false ∧ t = trapEntry (trapType k) s := by
  unfold enterTrap at h
  cases hs : s.psrDelay.live.s <;> cases hw : s.psrDelay.live.cwp <;> simp [hs, hw] at h
  exact ⟨rfl, rfl, h.symm⟩

theorem raise_enabled {k : Trap} {s : State} (hl : s.psrDelay.live.et = false) (h : s.psr.et = true) :
    raise k s = enterTrap k s := by simp [raise, hl, h]

theorem raise_disabled {k : Trap} {s : State} (hl : s.psrDelay.live.et = false) (h : s.psr.et = false) :
    raise k s = .next (enterError s) := by simp [raise, hl, h]

/-- A raised trap is trap entry or error mode (60_exceptions R430), and ET was settled (43_state_registers R341). -/
theorem raise_next {k : Trap} {s t : State} (h : raise k s = .next t) :
    s.psrDelay.live.et = false ∧
    ((s.psr.et = true ∧ s.psrDelay.live.s = false ∧ s.psrDelay.live.cwp = false ∧ t = trapEntry (trapType k) s) ∨
      (s.psr.et = false ∧ t = enterError s)) := by
  cases hl : s.psrDelay.live.et
  · refine ⟨rfl, ?_⟩
    cases he : s.psr.et
    · rw [raise_disabled hl he] at h; injection h with h; exact .inr ⟨rfl, h.symm⟩
    · rw [raise_enabled hl he] at h; exact .inl ⟨rfl, enterTrap_next h⟩
  · simp [raise, hl] at h

/-! ### Loads and stores -/

theorem loadReg_next {z : Size} {ext : Word → Word} {asi : Asi} {ea : Word} {rd : RegNum} {s t : State}
    (h : loadReg z ext asi ea rd s = .next t) :
    (alignedTo z.bytes ea = false ∧ raise .memAddressNotAligned s = .next t) ∨
    (alignedTo z.bytes ea = true ∧
      let s1 := afterAnswer (loadCycle asi ea z) s
      (raise .dataAccessException s1 = .next t ∨ t = assertReset s1 ∨
        ∃ a, t = writeWin (advance s1) (curWindow s) rd (ext (answerRead a s1 asi ea z)))) := by
  unfold loadReg at h
  split at h
  · next ha =>
    refine .inr ⟨ha, ?_⟩
    rcases transact_next h with h | h | ⟨a, _, h⟩
    · exact .inl h
    · exact .inr (.inl (cutByReset_next h))
    · injection h with h; exact .inr (.inr ⟨a, h.symm⟩)
  · next ha => exact .inl ⟨by simpa using ha, h⟩

theorem storeReg_next {z : Size} {asi : Asi} {ea : Word} {rd : RegNum} {s t : State}
    (h : storeReg z asi ea rd s = .next t) :
    (alignedTo z.bytes ea = false ∧ raise .memAddressNotAligned s = .next t) ∨
    (alignedTo z.bytes ea = true ∧
      let s1 := afterAnswer (storeCycle asi ea z (readReg s rd)) s
      (raise .dataAccessException s1 = .next t ∨ t = assertReset s1 ∨
        ∃ a, t = answerWrite a (advance s1) asi ea z (readReg s rd))) := by
  unfold storeReg at h
  split at h
  · next ha =>
    refine .inr ⟨ha, ?_⟩
    rcases transact_next h with h | h | ⟨a, _, h⟩
    · exact .inl h
    · exact .inr (.inl (cutByReset_next h))
    · injection h with h; exact .inr (.inr ⟨a, h.symm⟩)
  · next ha => exact .inl ⟨by simpa using ha, h⟩

/-- What a cut second access leaves is one of the two (20_memory R108). -/
theorem partially_cases (s a b : State) : partially s a b = a ∨ partially s a b = b := by
  unfold partially; split <;> simp

theorem loadPair_next {asi : Asi} {ea : Word} {rd : RegNum} {s t : State}
    (h : loadPair asi ea rd s = .next t) :
    (alignedTo 8 ea = false ∧ raise .memAddressNotAligned s = .next t) ∨
    (alignedTo 8 ea = true ∧
      let w := curWindow s
      let s1 := afterAnswer (pairLoadCycle false asi ea) s
      let s2 := afterAnswer (pairLoadCycle true asi (ea + 4)) s1
      (raise .dataAccessException s1 = .next t ∨ t = assertReset s1 ∨ t = assertReset s2 ∨
        ∃ hi lo, raise .dataAccessException s2 = .next t ∨ raise .dataAccessException (writeWin s2 w rd hi) = .next t ∨
          t = writeWin (writeWin (advance s2) w rd hi) w (rd + 1) lo)) := by
  unfold loadPair at h
  split at h
  · next ha =>
    refine .inr ⟨ha, ?_⟩
    rcases transact_next h with h | h | ⟨a, _, h⟩
    · exact .inl h
    · exact .inr (.inl (cutByReset_next h))
    rcases transact_next h with h | h | ⟨b, _, h⟩
    · rcases partially_cases s _ _ with e | e <;> rw [e] at h
      · exact .inr (.inr (.inr ⟨_, 0, .inr (.inl h)⟩))
      · exact .inr (.inr (.inr ⟨0, 0, .inl h⟩))
    · exact .inr (.inr (.inl (cutByReset_next h)))
    · injection h with h; exact .inr (.inr (.inr ⟨_, _, .inr (.inr h.symm)⟩))
  · next ha => exact .inl ⟨by simpa using ha, h⟩

theorem storePair_next {asi : Asi} {ea hi lo : Word} {s t : State}
    (h : storePair asi ea hi lo s = .next t) :
    (alignedTo 8 ea = false ∧ raise .memAddressNotAligned s = .next t) ∨
    (alignedTo 8 ea = true ∧
      let s1 := afterAnswer (pairStoreCycle asi ea hi) s
      let s2 := afterAnswer (pairStoreCycle asi (ea + 4) lo) s1
      (raise .dataAccessException s1 = .next t ∨ t = assertReset s1 ∨
        ∃ a b u, (u = s2 ∨ u = answerWrite a s2 asi ea .word hi) ∧
          (raise .dataAccessException u = .next t ∨ t = assertReset u ∨
            t = answerWrite b (answerWrite a (advance s2) asi ea .word hi) asi (ea + 4) .word lo))) := by
  unfold storePair at h
  split at h
  · next ha =>
    refine .inr ⟨ha, ?_⟩
    rcases transact_next h with h | h | ⟨a, _, h⟩
    · exact .inl h
    · exact .inr (.inl (cutByReset_next h))
    rcases transact_next h with h | h | ⟨b, _, h⟩
    · exact .inr (.inr ⟨a, a, _, (partially_cases s _ _).symm, .inl h⟩)
    · exact .inr (.inr ⟨a, a, _, (partially_cases s _ _).symm, .inr (.inl (cutByReset_next h))⟩)
    · injection h with h; exact .inr (.inr ⟨a, b, _, .inl rfl, .inr (.inr h.symm)⟩)
  · next ha => exact .inl ⟨by simpa using ha, h⟩

theorem loadStoreByte_next {asi : Asi} {ea : Word} {rd : RegNum} {s t : State}
    (h : loadStoreByte asi ea rd s = .next t) :
    let w := curWindow s
    let s1 := afterAnswer (atomicReadCycle asi ea) s
    let s2 := afterAnswer (atomicWriteCycle asi ea) s1
    raise .dataAccessException s1 = .next t ∨ t = assertReset s1 ∨
    ∃ v b u, (u = s2 ∨ u = writeWin s2 w rd v) ∧
      (raise .dataAccessException u = .next t ∨ t = assertReset u ∨
        t = answerWrite b (writeWin (advance s2) w rd v) asi ea .byte 0xFF) := by
  unfold loadStoreByte at h
  rcases transact_next h with h | h | ⟨a, _, h⟩
  · exact .inl h
  · exact .inr (.inl (cutByReset_next h))
  rcases transact_next h with h | h | ⟨b, _, h⟩
  · exact .inr (.inr ⟨_, a, _, (partially_cases s _ _).symm, .inl h⟩)
  · exact .inr (.inr ⟨_, a, _, (partially_cases s _ _).symm, .inr (.inl (cutByReset_next h))⟩)
  · injection h with h; exact .inr (.inr ⟨_, b, _, .inl rfl, .inr (.inr h.symm)⟩)

/-! What each does when plain memory answers. -/

theorem loadReg_memory {z : Size} {ext : Word → Word} {asi : Asi} {ea : Word} {rd : RegNum} {s : State}
    (h : memoryAnswers s 1) (ha : alignedTo z.bytes ea = true) :
    loadReg z ext asi ea rd s = .next (writeWin (advance (afterAnswer (loadCycle asi ea z) s)) (curWindow s) rd
      (ext (readPlace s.mem (placeOf s asi ea) z))) := by
  rw [loadReg, if_pos ha, transact_memory (memoryAnswers_next h (loadCycle asi ea z)).1]
  cases z <;> rfl

theorem storeReg_memory {z : Size} {asi : Asi} {ea : Word} {rd : RegNum} {s : State}
    (h : memoryAnswers s 1) (ha : alignedTo z.bytes ea = true) :
    storeReg z asi ea rd s = .next (writePlace (advance (afterAnswer (storeCycle asi ea z (readReg s rd)) s))
      (placeOf s asi ea) z (readReg s rd)) := by
  rw [storeReg, if_pos ha, transact_memory (memoryAnswers_next h (loadCycle asi ea z)).1]; rfl

theorem loadPair_memory {asi : Asi} {ea : Word} {rd : RegNum} {s : State}
    (h : memoryAnswers s 2) (ha : alignedTo 8 ea = true) :
    loadPair asi ea rd s = .next (writeWin (writeWin (advance (afterAnswer (pairLoadCycle true asi (ea + 4))
      (afterAnswer (pairLoadCycle false asi ea) s))) (curWindow s) rd (s.mem.word (placeOf s asi ea))) (curWindow s) (rd + 1)
      (s.mem.word (placeOf s asi (ea + 4)))) := by
  obtain ⟨h1, h2⟩ := memoryAnswers_next h (pairLoadCycle false asi ea)
  rw [loadPair, if_pos ha, transact_memory h1, transact_memory (memoryAnswers_next h2 (pairLoadCycle false asi ea)).1]; rfl

theorem storePair_memory {asi : Asi} {ea hi lo : Word} {s : State}
    (h : memoryAnswers s 2) (ha : alignedTo 8 ea = true) :
    storePair asi ea hi lo s = .next (writePlace (writePlace (advance (afterAnswer (pairStoreCycle asi (ea + 4) lo)
      (afterAnswer (pairStoreCycle asi ea hi) s))) (placeOf s asi ea) .word hi) (placeOf s asi (ea + 4)) .word lo) := by
  obtain ⟨h1, h2⟩ := memoryAnswers_next h (pairStoreCycle asi ea hi)
  rw [storePair, if_pos ha, transact_memory h1, transact_memory (memoryAnswers_next h2 (pairLoadCycle false asi ea)).1]; rfl

theorem loadStoreByte_memory {asi : Asi} {ea : Word} {rd : RegNum} {s : State} (h : memoryAnswers s 2) :
    loadStoreByte asi ea rd s = .next (answerWrite .memory (writeWin (advance (afterAnswer (atomicWriteCycle asi ea)
      (afterAnswer (atomicReadCycle asi ea) s))) (curWindow s) rd ((byteAt s asi ea).zeroExtend 32)) asi ea .byte
      0xFF) := by
  obtain ⟨h1, h2⟩ := memoryAnswers_next h (atomicReadCycle asi ea)
  rw [loadStoreByte, transact_memory h1, transact_memory (memoryAnswers_next h2 (atomicReadCycle asi ea)).1]; rfl

theorem withAlternate_cases (rs1 : RegNum) (a : AltOperand) (s : State)
    (f : Asi → Word → Host.Outcome State Fault Refusal) :
    withAlternate rs1 a s f = raise .illegalInstruction s ∨ withAlternate rs1 a s f = raise .privilegedInstruction s ∨
    ∃ asi ea, s.psr.s = true ∧ withAlternate rs1 a s f = f asi ea := by
  unfold withAlternate
  cases a with
  | imm v => exact .inl rfl
  | reg asi rs2 =>
    cases hs : s.psr.s
    · exact .inr (.inl (by simp))
    · exact .inr (.inr ⟨asi, readReg s rs1 + readReg s rs2, rfl, by simp⟩)

/-! ### Control transfer, state registers, floating point -/

/-- A branch ends at one of four pairs (42_control_transfer R293, R294). -/
theorem branchTo_cases (always taken a : Bool) (target : Word) (s : State) :
    branchTo always taken a target s = retire s target (target + 4) ∨
    branchTo always taken a target s = delayedTo s target ∨
    branchTo always taken a target s = retire s (s.npc + 4) (s.npc + 8) ∨
    branchTo always taken a target s = advance s := by
  unfold branchTo; split_ifs <;> simp

theorem ticc_cases (c : Cond) (rs1 : RegNum) (o : RegImm) (s : State) :
    (evalIcc c s.psr.icc = true ∧ ticc c rs1 o s = raise (.trapInstruction (trapNumber (effAddr s rs1 o))) s) ∨
    (evalIcc c s.psr.icc = false ∧ ticc c rs1 o s = .next (advance s)) := by
  unfold ticc; split <;> simp_all

theorem supervisorOnly_cases (s : State) (act : Host.Outcome State Fault Refusal) :
    (s.psr.s = true ∧ supervisorOnly s act = act) ∨
    (s.psr.s = false ∧ supervisorOnly s act = raise .privilegedInstruction s) := by
  unfold supervisorOnly; split <;> simp_all

theorem raiseFpException_next {s t : State} (h : raiseFpException s = .next t) :
    s.psrDelay.live.et = false ∧
    ((s.psr.et = true ∧ s.psrDelay.live.s = false ∧ s.psrDelay.live.cwp = false ∧
        t = trapEntry 8 (sendFpu [.fxack] { s with fexc := false })) ∨
      (s.psr.et = false ∧ t = enterError s)) := by
  unfold raiseFpException at h
  cases he : s.psr.et <;> simp only [he, Bool.false_eq_true, if_false, if_true] at h
  · obtain ⟨hl, h | h⟩ := raise_next h
    · rw [he] at h; cases h.1
    · exact ⟨hl, .inr ⟨rfl, h.2⟩⟩
  · obtain ⟨hl, h | h⟩ := raise_next h
    · exact ⟨hl, .inl ⟨rfl, h.2⟩⟩
    · exact absurd (he.symm.trans h.1) (by simp)

theorem withFpu_cases (s : State) (act : Host.Outcome State Fault Refusal) :
    (fpDisabled s = true ∧ withFpu s act = raise .fpDisabled s) ∨
    (fpDisabled s = false ∧ s.fexc = true ∧ withFpu s act = raiseFpException s) ∨
    (fpDisabled s = false ∧ s.fexc = false ∧ withFpu s act = act) := by
  unfold withFpu; split_ifs <;> simp_all

theorem withFpuAddress_cases (n : Nat) (ea : Word) (s : State) (act : Host.Outcome State Fault Refusal) :
    (fpDisabled s = true ∧ withFpuAddress n ea s act = raise .fpDisabled s) ∨
    (fpDisabled s = false ∧ alignedTo n ea = false ∧ withFpuAddress n ea s act = raise .memAddressNotAligned s) ∨
    (fpDisabled s = false ∧ alignedTo n ea = true ∧ s.fexc = true ∧
      withFpuAddress n ea s act = raiseFpException s) ∨
    (fpDisabled s = false ∧ alignedTo n ea = true ∧ s.fexc = false ∧ withFpuAddress n ea s act = act) := by
  unfold withFpuAddress; split_ifs <;> simp_all

/-! ### The step -/

/-- Everything a step that goes on can have done (60_exceptions R430, R441; 70_reset_and_hazards R480). -/
theorem step_next {s t : State} (h : step s = .next t) :
    ((nextInput s).reset = true ∧ t = assertReset (receiveInput s)) ∨
    ((nextInput s).reset = false ∧ s.mode = .reset ∧ t = releaseReset (receiveInput s)) ∨
    ((nextInput s).reset = false ∧ s.mode = .execute ∧
      acceptsInterrupt (receiveInput s) (nextInput s).irl = true ∧
      enterTrap (.interrupt (nextInput s).irl) (receiveInput s) = .next t) ∨
    ((nextInput s).reset = false ∧ s.mode = .execute ∧
      acceptsInterrupt (receiveInput s) (nextInput s).irl = false ∧ fetchAndRun (receiveInput s) = .next t) := by
  unfold step runStep at h
  simp only [receiveInput_mode] at h
  cases hr : (nextInput s).reset
  · cases hm : s.mode
    all_goals simp only [hr, hm, Bool.false_eq_true, if_false] at h
    · injection h with h; simp [h]
    · cases hi : acceptsInterrupt (receiveInput s) (nextInput s).irl <;>
        simp only [hi, Bool.false_eq_true, if_false, if_true] at h
      · simp [h]
      · simp [h]
    · exact absurd h (by simp)
  · simp only [hr, if_true] at h
    injection h with h; simp [h]

/-- Everything a fetch can lead to (20_memory R86; 60_exceptions R446; 50_bus_signals R398; 43_state_registers R341). -/
theorem fetchAndRun_cases (s : State) :
    let s1 := afterAnswer (fetchCycle s) s
    (s.psrDelay.live.s = true ∧ fetchAndRun s = .refused .psrUnsettled) ∨
    (nextAnswer s = .mexc ∧ fetchAndRun s = raise .instructionAccessException s1) ∨
    (nextAnswer s = .reset ∧ fetchAndRun s = .next (assertReset s1)) ∨
    (nextAnswer s = .held ∧ fetchAndRun s = .fault .heldForever) ∨
    ∃ w, fetchAndRun s = runDecoded (decodeBytes (bytesOfWord w)) s1 := by
  unfold fetchAndRun
  split
  · next hl => exact .inl ⟨hl, rfl⟩
  refine .inr ?_
  rcases transact_cases (fetchCycle s) s (raise .instructionAccessException) cutByReset _ with h | h | h | ⟨_, e⟩
  · exact .inl h
  · exact .inr (.inl h)
  · exact .inr (.inr (.inl h))
  · rw [e]; split <;> exact .inr (.inr (.inr ⟨_, rfl⟩))

theorem runDecoded_next {d : Decoded} {s t : State} (h : runDecoded d s = .next t) :
    (∃ i, d = .instr i ∧ exec i s = .next t) ∨ raise .illegalInstruction s = .next t := by
  unfold runDecoded at h
  cases d <;> simp_all

/-- The four bytes of a word decode as the word does (30_encoding R120; 20_memory R89). -/
theorem decodeBytes_bytesOfWord (w : Word) : decodeBytes (bytesOfWord w) = decode w := by
  have : wordOfBytes (byteOfWord w 0) (byteOfWord w 1) (byteOfWord w 2) (byteOfWord w 3) = w := by
    ext i hi; simp [wordOfBytes, byteOfWord]; grind
  simp only [bytesOfWord, decodeBytes, this]

end Sys2Proof.Machine
end

