-- ==== Sys2Proof/Laws/Exec.lean ====
section
/-! SUPPORT. Everything an instruction that goes on can have done (`exec_ends`), over all instructions, for the
statements about every instruction. -/

namespace Sys2Proof.Machine

/-- The spaces an instruction run from `s` may store to: none unless it stores; its data space, and in supervisor
mode any. -/
def mayStore (i : Instr) (s : State) (asi : Asi) : Prop :=
  storing i = true ∧ (s.psr.s = true ∨ asi = dataAsi s)

/-- No space. -/
def nowhere (_ : Asi) : Prop := False

/-- `t` is `s` after bus transactions, writes of registers, aligned stores to the spaces `ok` allows, and transfers to
the FPU: what a trap or a reset can find done. -/
inductive Touched (ok : Asi → Prop) (s : State) : State → Prop where
  | refl : Touched ok s s
  | answer {u : State} (c : BusCycle) : Touched ok s u → Touched ok s (afterAnswer c u)
  | reg {u : State} (w : WindowNum) (n : RegNum) (v : Word) : Touched ok s u → Touched ok s (writeWin u w n v)
  | store {u : State} (a : BusAnswer) (asi : Asi) (ea : Word) (z : Size) (v : Word) :
      Touched ok s u → ok asi → alignedTo z.bytes ea = true → Touched ok s (answerWrite a u asi ea z v)
  | fpu {u : State} (es : List FpuEvent) : Touched ok s u → Touched ok s (sendFpu es u)
  | fexc {u : State} : Touched ok s u → Touched ok s { u with fexc := false }

/-- The ways an instruction `i` run from `s` can end in a next state. -/
inductive Ends (i : Instr) (s : State) : State → Prop where
  | trap {u : State} (k : BitVec 8) : s.psrDelay.live.et = false → s.psrDelay.live.s = false →
      s.psrDelay.live.cwp = false → s.psr.et = true → Touched (mayStore i s) s u → Ends i s (trapEntry k u)
  | halt {u : State} : Touched (mayStore i s) s u → Ends i s (enterError u)
  | cut {u : State} : Touched (mayStore i s) s u → Ends i s (assertReset u)
  | plain {u v : State} (pc npc : Word) :
      (pcsAligned s → alignedTo 4 pc = true ∧ alignedTo 4 npc = true) →
      Touched nowhere s u → Touched (mayStore i s) (retire u pc npc) v → Ends i s v
  | flags {v : State} (icc : Icc) : writesIcc i = true →
      Touched (mayStore i s) (advance s) v → Ends i s { v with psr := { s.psr with icc := icc } }
  | multiply {v : State} (rd rs1 : RegNum) (o : RegImm) (icc : Icc) (y : Word) : i = .mulscc rd rs1 o →
      Touched (mayStore i s) (advance s) v → Ends i s { v with psr := { s.psr with icc := icc }, y := y }
  | jump {v : State} (rd rs1 : RegNum) (o : RegImm) (target : Word) : i = .jmpl rd rs1 o → alignedTo 4 target = true →
      Touched (mayStore i s) (delayedTo s target) v → Ends i s { v with afterJmpl := true }
  | window {v : State} (rd rs1 : RegNum) (o : RegImm) (w : WindowNum) :
      i = .save rd rs1 o ∨ i = .restore rd rs1 o →
      Touched (mayStore i s) (advance s) v → Ends i s { v with psr := { s.psr with cwp := w } }
  | returned (rs1 : RegNum) (o : RegImm) (target : Word) : i = .rett rs1 o → s.psr.s = true →
      alignedTo 4 target = true → s.afterJmpl = true → Ends i s (returnFromTrap target s)
  | notReturned (rs1 : RegNum) (o : RegImm) (k : Trap) : i = .rett rs1 o → Ends i s (failReturn k s)
  | psr (rs1 : RegNum) (o : RegImm) (p : Psr) : i = .wrpsr rs1 o → s.psr.s = true → Ends i s (writePsr p s)
  | y (rs1 : RegNum) (o : RegImm) (v : Word) : i = .wry rs1 o → Ends i s (writeY v s)
  | wim (rs1 : RegNum) (o : RegImm) (v : Word) : i = .wrwim rs1 o → s.psr.s = true → Ends i s (writeWim v s)
  | tbr (rs1 : RegNum) (o : RegImm) (v : Word) : i = .wrtbr rs1 o → s.psr.s = true → Ends i s (writeTbr v s)

/-- What a touched state has kept. -/
theorem Touched.kept {ok : Asi → Prop} {s t : State} (h : Touched ok s t) :
    t.pc = s.pc ∧ t.npc = s.npc ∧ t.psr = s.psr ∧ t.wim = s.wim ∧ t.tba = s.tba ∧ t.tt = s.tt ∧ t.y = s.y ∧
      t.mode = s.mode ∧ t.psrDelay = s.psrDelay ∧ t.wimDelay = s.wimDelay ∧ t.tbrDelay = s.tbrDelay ∧
      t.yDelay = s.yDelay ∧ t.spaces = s.spaces ∧ t.free = s.free := by
  induction h with
  | refl => simp
  | _ => simpa using by assumption

theorem Touched.afterJmpl {ok : Asi → Prop} {s t : State} (h : Touched ok s t) : t.afterJmpl = s.afterJmpl := by
  induction h with
  | refl => rfl
  | _ => simpa using by assumption

theorem Touched.trans {ok : Asi → Prop} {s t u : State} (h : Touched ok s t) (h' : Touched ok t u) :
    Touched ok s u := by
  induction h' with
  | refl => exact h
  | answer c _ ih => exact .answer c ih
  | reg w n v _ ih => exact .reg w n v ih
  | store a asi ea z v _ ho ha ih => exact .store a asi ea z v ih ho ha
  | fpu es _ ih => exact .fpu es ih
  | fexc _ ih => exact .fexc ih

theorem Touched.mono {ok ok' : Asi → Prop} {s t : State} (h : Touched ok s t) (ho : ∀ asi, ok asi → ok' asi) :
    Touched ok' s t := by
  induction h with
  | refl => exact .refl
  | answer c _ ih => exact .answer c ih
  | reg w n v _ ih => exact .reg w n v ih
  | store a asi ea z v _ h ha ih => exact .store a asi ea z v ih (ho asi h) ha
  | fpu es _ ih => exact .fpu es ih
  | fexc _ ih => exact .fexc ih

/-- Where nothing may be stored, memory and the remembered words are as before. -/
theorem Touched.unstored {ok : Asi → Prop} {s t : State} (h : Touched ok s t) (ho : ∀ asi, ¬ ok asi) :
    t.mem = s.mem ∧ t.stale = s.stale := by
  induction h with
  | refl => exact ⟨rfl, rfl⟩
  | store a asi ea z v _ h => exact absurd h (ho asi)
  | _ => simpa using by assumption

/-- The words a touch has added to those remembered have all their instructions left (20_memory R104). -/
theorem Touched.staleAdded {ok : Asi → Prop} {s t : State} (h : Touched ok s t) :
    ∃ l, t.stale = l ++ s.stale ∧ ∀ w ∈ l, w.left = Config.prefetchDepth := by
  induction h with
  | refl => exact ⟨[], rfl, by simp⟩
  | @store u a asi ea z v _ _ _ ih =>
    obtain ⟨l, e, hl⟩ := ih
    cases a
    · let p := wordPlace (placeOf u asi ea)
      refine ⟨⟨p, u.mem.word p, Config.prefetchDepth⟩ :: l, ?_, by simpa using hl⟩
      simp only [answerWrite, writePlace_stale, e]; rfl
    all_goals exact ⟨l, e, hl⟩
  | _ => simpa using by assumption

theorem Touched.psr {ok : Asi → Prop} {s t : State} (h : Touched ok s t) : t.psr = s.psr := h.kept.2.2.1

theorem Touched.psrDelay {ok : Asi → Prop} {s t : State} (h : Touched ok s t) : t.psrDelay = s.psrDelay :=
  h.kept.2.2.2.2.2.2.2.2.1

/-- A touched memory keeps the canonical form. -/
theorem Touched.wf {ok : Asi → Prop} {s t : State} (h : Touched ok s t) (hs : s.mem.wf = true) :
    t.mem.wf = true := by
  induction h with
  | refl => exact hs
  | store a asi ea z v _ _ _ ih =>
    cases a
    · exact Memory.setBytes_wf ih _ _
    all_goals exact ih
  | _ => simpa using by assumption

/-- Remembered words stay sound under a touch. -/
theorem Touched.stale {ok : Asi → Prop} {s t : State} (h : Touched ok s t) (hs : staleSound s) : staleSound t := by
  unfold staleSound at *
  induction h with
  | refl => exact hs
  | store a asi ea z v _ _ _ ih =>
    cases a
    · intro w hw
      simp only [answerWrite, writePlace_stale, List.mem_cons] at hw
      rcases hw with rfl | hw
      · exact ⟨by show 1 ≤ Config.prefetchDepth; decide, le_refl _⟩
      · exact ih w hw
    all_goals exact ih
  | _ => simpa using by assumption

theorem placeOf_add {s : State} {asi : Asi} {ea : Word} {n k : Nat} (ha : alignedTo n ea = true) (hn : n ∣ 2 ^ 32)
    (hk : k < n) : placeOf s asi ea + k = placeOf s asi (ea + BitVec.ofNat 32 k) := by
  have h : ea.toNat % n = 0 := by simpa [alignedTo] using ha
  obtain ⟨c, hc⟩ := Nat.dvd_of_mod_eq_zero h
  obtain ⟨d, hd⟩ := hn
  have hlt : ea.toNat + k < 2 ^ 32 := by
    have h1 : n * c < n * d := by rw [← hc, ← hd]; exact ea.isLt
    have h2 : c + 1 ≤ d := Nat.lt_of_mul_lt_mul_left h1
    have h3 : n * (c + 1) ≤ n * d := Nat.mul_le_mul_left n h2
    rw [← hd, Nat.mul_add, ← hc] at h3
    omega
  unfold placeOf
  rw [BitVec.toNat_add, BitVec.toNat_ofNat, Nat.mod_eq_of_lt (a := k) (by omega), Nat.mod_eq_of_lt hlt]; omega

/-- A byte outside every space that may be stored to is untouched. -/
theorem Touched.outside {ok : Asi → Prop} {s t : State} (h : Touched ok s t) {p : Nat}
    (hp : ∀ asi, ok asi → ∀ a : Word, p ≠ placeOf s asi a) : t.mem.get p = s.mem.get p := by
  induction h with
  | refl => rfl
  | @store u a asi ea z v hu ho ha ih =>
    cases a
    · simp only [answerWrite, writePlace_mem]
      rw [Memory.get_setBytes_outside, ih]
      by_contra hc
      obtain ⟨k, hk, rfl⟩ : ∃ k, k < z.bytes ∧ p = placeOf u asi ea + k := by
        rw [storeBytes_length] at hc
        exact ⟨p - placeOf u asi ea, by omega, by omega⟩
      have hsp : placeOf u asi ea = placeOf s asi ea := by simp [placeOf, hu.kept.2.2.2.2.2.2.2.2.2.2.2.2.1]
      refine hp asi ho (ea + BitVec.ofNat 32 k) ?_
      rw [hsp]
      exact placeOf_add ha (by cases z <;> decide) hk
    all_goals exact ih
  | _ => simpa using by assumption

/-! ### One lemma per shared operation -/

section Shared
variable {i : Instr} {s t : State}

theorem Ends.ofRaise {u : State} {k : Trap} (hu : Touched (mayStore i s) s u) (h : raise k u = .next t) :
    Ends i s t := by
  obtain ⟨hl, ⟨he, hs, hw, rfl⟩ | ⟨_, rfl⟩⟩ := raise_next h
  · rw [hu.psrDelay] at hl hs hw
    exact .trap _ hl hs hw (by rw [← hu.psr]; exact he) hu
  · exact .halt hu

theorem Ends.ofAdvance {u v : State} (hu : Touched nowhere s u) (hv : Touched (mayStore i s) (advance u) v) :
    Ends i s v := by
  refine .plain u.npc (u.npc + 4) (fun h => ?_) hu hv
  rw [hu.kept.2.1]
  refine ⟨h.2, ?_⟩
  have := h.2
  have e : (4 : Word).toNat = 4 := rfl
  simp only [alignedTo, beq_iff_eq, BitVec.toNat_add, e] at *
  omega

theorem ends_alu {rd : RegNum} {v : Word} (h : aluWrite rd v s = .next t) : Ends i s t := by
  injection h with h; subst h
  exact .ofAdvance .refl (.reg _ _ _ .refl)

theorem ends_cc {rd : RegNum} {r : Word × Icc} (hw : writesIcc i = true) (h : aluWriteCc rd r s = .next t) :
    Ends i s t := by
  injection h with h; subst h
  exact .flags _ hw (.reg _ _ _ .refl)

theorem ends_tagged {rd : RegNum} {r : Word × Icc} (hw : writesIcc i = true) (h : taggedTrap rd r s = .next t) :
    Ends i s t := by
  unfold taggedTrap at h
  split at h
  · exact .ofRaise .refl h
  · exact ends_cc hw h

theorem touched_partially {a b : State} (ha : Touched (mayStore i s) s a) (hb : Touched (mayStore i s) s b) :
    Touched (mayStore i s) s (partially s a b) := by
  rcases partially_cases s a b with h | h <;> rw [h] <;> assumption

theorem ends_load {z : Size} {ext : Word → Word} {asi : Asi} {ea : Word} {rd : RegNum}
    (h : loadReg z ext asi ea rd s = .next t) : Ends i s t := by
  rcases loadReg_next h with ⟨_, h⟩ | ⟨_, h | rfl | ⟨_, rfl⟩⟩
  · exact .ofRaise .refl h
  · exact .ofRaise (.answer _ .refl) h
  · exact .cut (.answer _ .refl)
  · exact .ofAdvance (.answer _ .refl) (.reg _ _ _ .refl)

theorem ends_loadPair {asi : Asi} {ea : Word} {rd : RegNum} (h : loadPair asi ea rd s = .next t) : Ends i s t := by
  rcases loadPair_next h with ⟨_, h⟩ | ⟨_, h | rfl | rfl | ⟨_, _, h | h | rfl⟩⟩
  · exact .ofRaise .refl h
  · exact .ofRaise (.answer _ .refl) h
  · exact .cut (.answer _ .refl)
  · exact .cut (.answer _ (.answer _ .refl))
  · exact .ofRaise (.answer _ (.answer _ .refl)) h
  · exact .ofRaise (.reg _ _ _ (.answer _ (.answer _ .refl))) h
  · exact .ofAdvance (.answer _ (.answer _ .refl)) (.reg _ _ _ (.reg _ _ _ .refl))

theorem ends_store {z : Size} {asi : Asi} {ea : Word} {rd : RegNum} (ho : mayStore i s asi)
    (h : storeReg z asi ea rd s = .next t) : Ends i s t := by
  rcases storeReg_next h with ⟨_, h⟩ | ⟨ha, h | rfl | ⟨_, rfl⟩⟩
  · exact .ofRaise .refl h
  · exact .ofRaise (.answer _ .refl) h
  · exact .cut (.answer _ .refl)
  · exact .ofAdvance (.answer _ .refl) (.store _ _ _ _ _ .refl ho ha)

theorem alignedTo_four {ea : Word} (h : alignedTo 8 ea = true) :
    alignedTo 4 ea = true ∧ alignedTo 4 (ea + 4) = true := by
  have e : (4 : Word).toNat = 4 := rfl
  simp only [alignedTo, beq_iff_eq, BitVec.toNat_add, e] at *
  omega

theorem ends_storePair {asi : Asi} {ea hi lo : Word} (ho : mayStore i s asi)
    (h : storePair asi ea hi lo s = .next t) : Ends i s t := by
  rcases storePair_next h with ⟨_, h⟩ | ⟨ha, h | rfl | ⟨a, b, u, hu, h⟩⟩
  · exact .ofRaise .refl h
  · exact .ofRaise (.answer _ .refl) h
  · exact .cut (.answer _ .refl)
  · obtain ⟨h1, h2⟩ := alignedTo_four ha
    have hu' : Touched (mayStore i s) s u := by
      rcases hu with rfl | rfl
      · exact .answer _ (.answer _ .refl)
      · exact .store _ _ _ _ _ (.answer _ (.answer _ .refl)) ho h1
    rcases h with h | rfl | rfl
    · exact .ofRaise hu' h
    · exact .cut hu'
    · exact .ofAdvance (.answer _ (.answer _ .refl)) (.store _ _ _ _ _ (.store _ _ _ _ _ .refl ho h1) ho h2)

theorem ends_loadStore {asi : Asi} {ea : Word} {rd : RegNum} (ho : mayStore i s asi)
    (h : loadStoreByte asi ea rd s = .next t) : Ends i s t := by
  rcases loadStoreByte_next h with h | rfl | ⟨v, b, u, hu, h⟩
  · exact .ofRaise (.answer _ .refl) h
  · exact .cut (.answer _ .refl)
  · have hu' : Touched (mayStore i s) s u := by
      rcases hu with rfl | rfl
      · exact .answer _ (.answer _ .refl)
      · exact .reg _ _ _ (.answer _ (.answer _ .refl))
    rcases h with h | rfl | rfl
    · exact .ofRaise hu' h
    · exact .cut hu'
    · exact .ofAdvance (.answer _ (.answer _ .refl)) (.store _ _ _ _ _ (.reg _ _ _ .refl) ho (by
        simp [alignedTo, Size.bytes, Nat.mod_one]))

theorem ends_alternate {rs1 : RegNum} {a : AltOperand} {f : Asi → Word → Answer}
    (hf : ∀ asi ea, s.psr.s = true → f asi ea = .next t → Ends i s t)
    (h : withAlternate rs1 a s f = .next t) : Ends i s t := by
  rcases withAlternate_cases rs1 a s f with e | e | ⟨asi, ea, hs, e⟩ <;> rw [e] at h
  · exact .ofRaise .refl h
  · exact .ofRaise .refl h
  · exact hf asi ea hs h

theorem aligned_add_four {a : Word} (h : alignedTo 4 a = true) : alignedTo 4 (a + 4) = true := by
  have e : (4 : Word).toNat = 4 := rfl
  simp only [alignedTo, beq_iff_eq, BitVec.toNat_add, e] at *; omega

theorem aligned_add {a b : Word} (ha : alignedTo 4 a = true) (hb : alignedTo 4 b = true) :
    alignedTo 4 (a + b) = true := by
  simp only [alignedTo, beq_iff_eq, BitVec.toNat_add] at *; omega

theorem aligned_of_bits {v : Word} (h0 : v.getLsbD 0 = false) (h1 : v.getLsbD 1 = false) : alignedTo 4 v = true := by
  simp only [alignedTo, beq_iff_eq]
  have e0 := BitVec.testBit_toNat v (i := 0)
  have e1 := BitVec.testBit_toNat v (i := 1)
  rw [h0] at e0; rw [h1] at e1
  simp [Nat.testBit_succ, Nat.testBit_zero] at e0 e1
  omega

theorem aligned_branchOffset (d : BitVec 22) : alignedTo 4 ((d ++ 0#2).signExtend 32) = true :=
  aligned_of_bits
    (by rw [BitVec.getLsbD_signExtend, if_pos (by decide), BitVec.getLsbD_append]; rfl)
    (by rw [BitVec.getLsbD_signExtend, if_pos (by decide), BitVec.getLsbD_append]; rfl)

theorem aligned_callOffset (d : BitVec 30) : alignedTo 4 (d ++ 0#2) = true :=
  aligned_of_bits (by rw [BitVec.getLsbD_append]; simp) (by rw [BitVec.getLsbD_append]; simp)

theorem ends_branch {always taken a : Bool} {d : BitVec 22}
    (h : (.next (branchTo always taken a (branchTarget s d) s) : Answer) = .next t) : Ends i s t := by
  injection h with h; subst h
  have ht : pcsAligned s → alignedTo 4 (branchTarget s d) = true := fun hp =>
    aligned_add hp.1 (aligned_branchOffset d)
  rcases branchTo_cases always taken a (branchTarget s d) s with e | e | e | e <;> rw [e]
  · exact .plain _ _ (fun hp => ⟨ht hp, aligned_add_four (ht hp)⟩) .refl .refl
  · exact .plain _ _ (fun hp => ⟨hp.2, ht hp⟩) .refl .refl
  · exact .plain _ _ (fun hp => ⟨aligned_add_four hp.2, aligned_add hp.2 (by decide)⟩) .refl .refl
  · exact .ofAdvance .refl .refl

theorem ends_ticc {c : Cond} {rs1 : RegNum} {o : RegImm} (h : ticc c rs1 o s = .next t) : Ends i s t := by
  rcases ticc_cases c rs1 o s with ⟨_, e⟩ | ⟨_, e⟩ <;> rw [e] at h
  · exact .ofRaise .refl h
  · injection h with h; subst h; exact .ofAdvance .refl .refl

theorem ends_supervisor {act : Answer} (hf : s.psr.s = true → act = .next t → Ends i s t)
    (h : supervisorOnly s act = .next t) : Ends i s t := by
  rcases supervisorOnly_cases s act with ⟨hs, e⟩ | ⟨_, e⟩ <;> rw [e] at h
  · exact hf hs h
  · exact .ofRaise .refl h

theorem ends_fpException (h : raiseFpException s = .next t) : Ends i s t := by
  obtain ⟨hl, ⟨he, hs, hw, rfl⟩ | ⟨_, rfl⟩⟩ := raiseFpException_next h
  · exact .trap _ hl hs hw he (.fpu _ (.fexc .refl))
  · exact .halt .refl

theorem ends_withFpu {act : Answer} (hf : act = .next t → Ends i s t) (h : withFpu s act = .next t) :
    Ends i s t := by
  rcases withFpu_cases s act with ⟨_, e⟩ | ⟨_, _, e⟩ | ⟨_, _, e⟩ <;> rw [e] at h
  · exact .ofRaise .refl h
  · exact ends_fpException h
  · exact hf h

theorem ends_withFpuAddress {n : Nat} {ea : Word} {act : Answer}
    (hf : alignedTo n ea = true → act = .next t → Ends i s t) (h : withFpuAddress n ea s act = .next t) :
    Ends i s t := by
  rcases withFpuAddress_cases n ea s act with ⟨_, e⟩ | ⟨_, _, e⟩ | ⟨_, _, _, e⟩ | ⟨_, ha, _, e⟩ <;> rw [e] at h
  · exact .ofRaise .refl h
  · exact .ofRaise .refl h
  · exact ends_fpException h
  · exact hf ha h

theorem ends_fpop {j : Instr} (h : fpop j s = .next t) : Ends i s t :=
  ends_withFpu (fun h => by
    injection h with h; subst h; exact .ofAdvance .refl (.fpu _ .refl)) h

theorem mayStore_data (hi : storing i = true) (s : State) : mayStore i s (dataAsi s) := ⟨hi, .inr rfl⟩

theorem ends_fpLoadWord {j : Instr} {ea : Word} (h : fpLoadWord j ea s = .next t) : Ends i s t := by
  refine ends_withFpuAddress (fun _ h => ?_) h
  rcases transact_next h with h | h | ⟨a, _, h⟩
  · exact .ofRaise (.fpu _ (.answer _ .refl)) h
  · cases cutByReset_next h; exact .cut (.answer _ .refl)
  · injection h with h; subst h; exact .ofAdvance (.answer _ .refl) (.fpu _ .refl)

theorem ends_fpLoadPair {j : Instr} {ea : Word} (h : fpLoadPair j ea s = .next t) : Ends i s t := by
  refine ends_withFpuAddress (fun _ h => ?_) h
  rcases transact_next h with h | h | ⟨a, _, h⟩
  · exact .ofRaise (.fpu _ (.answer _ .refl)) h
  · cases cutByReset_next h; exact .cut (.answer _ .refl)
  rcases transact_next h with h | h | ⟨b, _, h⟩
  · exact .ofRaise (.fpu _ (.answer _ (.answer _ .refl))) h
  · cases cutByReset_next h; exact .cut (.answer _ (.answer _ .refl))
  · injection h with h; subst h; exact .ofAdvance (.answer _ (.answer _ .refl)) (.fpu _ .refl)

theorem ends_fpStoreWord {j : Instr} {ea : Word} (hi : storing i = true) (h : fpStoreWord j ea s = .next t) :
    Ends i s t := by
  refine ends_withFpuAddress (fun ha h => ?_) h
  rcases transact_next h with h | h | ⟨a, _, h⟩
  · exact .ofRaise (.fpu _ (.answer _ .refl)) h
  · cases cutByReset_next h; exact .cut (.answer _ .refl)
  · injection h with h; subst h
    exact .ofAdvance (.answer _ .refl) (.store _ _ _ _ _ (.fpu _ .refl) (mayStore_data hi s) ha)

theorem ends_fpStorePair {j : Instr} {ea : Word} (hi : storing i = true) (h : fpStorePair j ea s = .next t) :
    Ends i s t := by
  refine ends_withFpuAddress (fun ha h => ?_) h
  obtain ⟨ha1, ha2⟩ := alignedTo_four ha
  have hm := mayStore_data hi s
  rcases transact_next h with h | h | ⟨a, _, h⟩
  · exact .ofRaise (.fpu _ (.answer _ .refl)) h
  · cases cutByReset_next h; exact .cut (.answer _ .refl)
  rcases transact_next h with h | h | ⟨b, _, h⟩
  · exact .ofRaise (.fpu _ (touched_partially (.store _ _ ea .word _ (.answer _ (.answer _ .refl)) hm ha1)
      (.answer _ (.answer _ .refl)))) h
  · cases cutByReset_next h
    exact .cut (touched_partially (.store _ _ ea .word _ (.fpu _ (.answer _ (.answer _ .refl))) hm ha1)
      (.answer _ (.answer _ .refl)))
  · injection h with h; subst h
    exact .ofAdvance (.answer _ (.answer _ .refl))
      (.store _ _ _ _ _ (.store _ _ _ _ _ (.fpu _ .refl) hm ha1) hm ha2)

theorem ends_odd {rd : RegNum} {act : Answer} (hf : act = .next t → Ends i s t)
    (h : (if oddPair rd then .refused .oddDoublewordRegister else act) = .next t) : Ends i s t := by
  split at h
  · cases h
  · exact hf h

theorem ends_mulscc {rd rs1 : RegNum} {o : RegImm} (h : execMulscc rd rs1 o s = .next t) :
    Ends (.mulscc rd rs1 o) s t := by
  injection (unlessUnsettled_next h).2 with h; subst h
  exact .multiply rd rs1 o _ _ rfl (.reg _ _ _ .refl)

theorem ends_save {rd rs1 : RegNum} {o : RegImm} (h : execSave rd rs1 o s = .next t) :
    Ends (.save rd rs1 o) s t := by
  replace h := (unlessUnsettled_next h).2
  dsimp only at h
  split at h
  · exact .ofRaise .refl h
  · injection h with h; subst h; exact .window rd rs1 o _ (.inl rfl) (.reg _ _ _ .refl)

theorem ends_restore {rd rs1 : RegNum} {o : RegImm} (h : execRestore rd rs1 o s = .next t) :
    Ends (.restore rd rs1 o) s t := by
  replace h := (unlessUnsettled_next h).2
  dsimp only at h
  split at h
  · exact .ofRaise .refl h
  · injection h with h; subst h; exact .window rd rs1 o _ (.inr rfl) (.reg _ _ _ .refl)

theorem ends_call {d : BitVec 30} (h : execCall d s = .next t) : Ends i s t := by
  injection (unlessUnsettled_next h).2 with h; subst h
  exact .plain _ _ (fun hp => ⟨hp.2, aligned_add hp.1 (aligned_callOffset d)⟩) .refl (.reg _ _ _ .refl)

theorem ends_jmpl {rd rs1 : RegNum} {o : RegImm} (h : execJmpl rd rs1 o s = .next t) : Ends (.jmpl rd rs1 o) s t := by
  replace h := (unlessUnsettled_next h).2
  dsimp only at h
  split at h
  · rename_i ha; injection h with h; subst h; exact .jump rd rs1 o _ rfl ha (.reg _ _ _ .refl)
  · exact .ofRaise .refl h

theorem ends_rett {rs1 : RegNum} {o : RegImm} (h : execRett rs1 o s = .next t) : Ends (.rett rs1 o) s t := by
  replace h := (unlessUnsettled_next h).2
  dsimp only at h
  split at h
  · exact .ofRaise .refl h
  split at h
  · injection h with h; subst h; exact .notReturned rs1 o _ rfl
  rename_i hs
  split at h
  · injection h with h; subst h; exact .notReturned rs1 o _ rfl
  split at h
  · injection h with h; subst h; exact .notReturned rs1 o _ rfl
  rename_i ha
  split at h
  · rename_i hj
    injection h with h; subst h; exact .returned rs1 o _ rfl (by simpa using hs) (by simpa using ha) hj
  · cases h

theorem ends_wry {rs1 : RegNum} {o : RegImm} (h : execWry rs1 o s = .next t) : Ends (.wry rs1 o) s t := by
  injection (unlessUnsettled_next h).2 with h; subst h; exact .y rs1 o _ rfl

theorem ends_wrpsr {rs1 : RegNum} {o : RegImm} (h : execWrpsr rs1 o s = .next t) : Ends (.wrpsr rs1 o) s t := by
  replace h := (unlessUnsettled_next h).2
  dsimp only at h
  split at h
  · exact ends_supervisor (fun hs h => by injection h with h; subst h; exact .psr rs1 o _ rfl hs) h
  · exact .ofRaise .refl h

theorem ends_wrwim {rs1 : RegNum} {o : RegImm} (h : execWrwim rs1 o s = .next t) : Ends (.wrwim rs1 o) s t :=
  ends_supervisor (fun hs h => by injection h with h; subst h; exact .wim rs1 o _ rfl hs) (unlessUnsettled_next h).2

theorem ends_wrtbr {rs1 : RegNum} {o : RegImm} (h : execWrtbr rs1 o s = .next t) : Ends (.wrtbr rs1 o) s t :=
  ends_supervisor (fun hs h => by injection h with h; subst h; exact .tbr rs1 o _ rfl hs) (unlessUnsettled_next h).2

theorem ends_iflush {rs1 : RegNum} {o : RegImm} (h : execIflush rs1 o s = .next t) : Ends i s t := by
  replace h := (unlessUnsettled_next h).2
  split at h
  · injection h with h; subst h; exact .ofAdvance .refl .refl
  · exact .ofRaise .refl h

end Shared

/-- Every instruction that goes on ends in one of the ways of `Ends`. -/
theorem exec_ends {i : Instr} {s t : State} (h : exec i s = .next t) : Ends i s t := by
  cases i with
  | ld rd rs1 o => exact ends_load (unlessUnsettled_next h).2
  | ldub rd rs1 o => exact ends_load (unlessUnsettled_next h).2
  | lduh rd rs1 o => exact ends_load (unlessUnsettled_next h).2
  | ldd rd rs1 o => exact ends_odd ends_loadPair (unlessUnsettled_next h).2
  | st rd rs1 o => exact ends_store (mayStore_data rfl s) (unlessUnsettled_next h).2
  | stb rd rs1 o => exact ends_store (mayStore_data rfl s) (unlessUnsettled_next h).2
  | sth rd rs1 o => exact ends_store (mayStore_data rfl s) (unlessUnsettled_next h).2
  | std rd rs1 o => exact ends_odd (ends_storePair (mayStore_data rfl s)) (unlessUnsettled_next h).2
  | ldsb rd rs1 o => exact ends_load (unlessUnsettled_next h).2
  | ldsh rd rs1 o => exact ends_load (unlessUnsettled_next h).2
  | ldstub rd rs1 o => exact ends_loadStore (mayStore_data rfl s) (unlessUnsettled_next h).2
  | lda rd rs1 a => exact ends_alternate (fun _ _ _ => ends_load) (unlessUnsettled_next h).2
  | lduba rd rs1 a => exact ends_alternate (fun _ _ _ => ends_load) (unlessUnsettled_next h).2
  | lduha rd rs1 a => exact ends_alternate (fun _ _ _ => ends_load) (unlessUnsettled_next h).2
  | ldda rd rs1 a => exact ends_alternate (fun _ _ _ => ends_odd ends_loadPair) (unlessUnsettled_next h).2
  | sta rd rs1 a => exact ends_alternate (fun _ _ hs => ends_store ⟨rfl, .inl hs⟩) (unlessUnsettled_next h).2
  | stba rd rs1 a => exact ends_alternate (fun _ _ hs => ends_store ⟨rfl, .inl hs⟩) (unlessUnsettled_next h).2
  | stha rd rs1 a => exact ends_alternate (fun _ _ hs => ends_store ⟨rfl, .inl hs⟩) (unlessUnsettled_next h).2
  | stda rd rs1 a =>
    exact ends_alternate (fun _ _ hs => ends_odd (ends_storePair ⟨rfl, .inl hs⟩)) (unlessUnsettled_next h).2
  | ldsba rd rs1 a => exact ends_alternate (fun _ _ _ => ends_load) (unlessUnsettled_next h).2
  | ldsha rd rs1 a => exact ends_alternate (fun _ _ _ => ends_load) (unlessUnsettled_next h).2
  | ldstuba rd rs1 a => exact ends_alternate (fun _ _ hs => ends_loadStore ⟨rfl, .inl hs⟩) (unlessUnsettled_next h).2
  | ldf rd rs1 a => exact ends_fpLoadWord (unlessUnsettled_next h).2
  | ldfsr rd rs1 a => exact ends_fpLoadWord (unlessUnsettled_next h).2
  | lddf rd rs1 a => exact ends_fpLoadPair (unlessUnsettled_next h).2
  | stf rd rs1 a => exact ends_fpStoreWord rfl (unlessUnsettled_next h).2
  | stfsr rd rs1 a => exact ends_fpStoreWord rfl (unlessUnsettled_next h).2
  | stdfq rd rs1 a => exact ends_fpStorePair rfl (unlessUnsettled_next h).2
  | stdf rd rs1 a => exact ends_fpStorePair rfl (unlessUnsettled_next h).2
  | add rd rs1 o => exact ends_alu (unlessUnsettled_next h).2
  | addcc rd rs1 o => exact ends_cc rfl (unlessUnsettled_next h).2
  | addx rd rs1 o => exact ends_alu (unlessUnsettled_next h).2
  | addxcc rd rs1 o => exact ends_cc rfl (unlessUnsettled_next h).2
  | sub rd rs1 o => exact ends_alu (unlessUnsettled_next h).2
  | subcc rd rs1 o => exact ends_cc rfl (unlessUnsettled_next h).2
  | subx rd rs1 o => exact ends_alu (unlessUnsettled_next h).2
  | subxcc rd rs1 o => exact ends_cc rfl (unlessUnsettled_next h).2
  | taddcc rd rs1 o => exact ends_cc rfl (unlessUnsettled_next h).2
  | tsubcc rd rs1 o => exact ends_cc rfl (unlessUnsettled_next h).2
  | taddcctv rd rs1 o => exact ends_tagged rfl (unlessUnsettled_next h).2
  | tsubcctv rd rs1 o => exact ends_tagged rfl (unlessUnsettled_next h).2
  | mulscc rd rs1 o => exact ends_mulscc h
  | and rd rs1 o => exact ends_alu (unlessUnsettled_next h).2
  | andcc rd rs1 o => exact ends_cc rfl (unlessUnsettled_next h).2
  | andn rd rs1 o => exact ends_alu (unlessUnsettled_next h).2
  | andncc rd rs1 o => exact ends_cc rfl (unlessUnsettled_next h).2
  | or rd rs1 o => exact ends_alu (unlessUnsettled_next h).2
  | orcc rd rs1 o => exact ends_cc rfl (unlessUnsettled_next h).2
  | orn rd rs1 o => exact ends_alu (unlessUnsettled_next h).2
  | orncc rd rs1 o => exact ends_cc rfl (unlessUnsettled_next h).2
  | xor rd rs1 o => exact ends_alu (unlessUnsettled_next h).2
  | xorcc rd rs1 o => exact ends_cc rfl (unlessUnsettled_next h).2
  | xnor rd rs1 o => exact ends_alu (unlessUnsettled_next h).2
  | xnorcc rd rs1 o => exact ends_cc rfl (unlessUnsettled_next h).2
  | sll rd rs1 o => exact ends_alu (unlessUnsettled_next h).2
  | srl rd rs1 o => exact ends_alu (unlessUnsettled_next h).2
  | sra rd rs1 o => exact ends_alu (unlessUnsettled_next h).2
  | save rd rs1 o => exact ends_save h
  | restore rd rs1 o => exact ends_restore h
  | sethi rd imm22 => exact ends_alu (unlessUnsettled_next h).2
  | ba a disp22 => exact ends_branch (unlessUnsettled_next h).2
  | bn a disp22 => exact ends_branch (unlessUnsettled_next h).2
  | bne a disp22 => exact ends_branch (unlessUnsettled_next h).2
  | be a disp22 => exact ends_branch (unlessUnsettled_next h).2
  | bg a disp22 => exact ends_branch (unlessUnsettled_next h).2
  | ble a disp22 => exact ends_branch (unlessUnsettled_next h).2
  | bge a disp22 => exact ends_branch (unlessUnsettled_next h).2
  | bl a disp22 => exact ends_branch (unlessUnsettled_next h).2
  | bgu a disp22 => exact ends_branch (unlessUnsettled_next h).2
  | bleu a disp22 => exact ends_branch (unlessUnsettled_next h).2
  | bcc a disp22 => exact ends_branch (unlessUnsettled_next h).2
  | bcs a disp22 => exact ends_branch (unlessUnsettled_next h).2
  | bpos a disp22 => exact ends_branch (unlessUnsettled_next h).2
  | bneg a disp22 => exact ends_branch (unlessUnsettled_next h).2
  | bvc a disp22 => exact ends_branch (unlessUnsettled_next h).2
  | bvs a disp22 => exact ends_branch (unlessUnsettled_next h).2
  | call disp30 => exact ends_call h
  | jmpl rd rs1 o => exact ends_jmpl h
  | rett rs1 o => exact ends_rett h
  | ta rs1 o => exact ends_ticc (c := .always) (rs1 := rs1) (o := o) (unlessUnsettled_next h).2
  | tn rs1 o => exact ends_ticc (c := .never) (rs1 := rs1) (o := o) (unlessUnsettled_next h).2
  | tne rs1 o => exact ends_ticc (unlessUnsettled_next h).2
  | te rs1 o => exact ends_ticc (unlessUnsettled_next h).2
  | tg rs1 o => exact ends_ticc (unlessUnsettled_next h).2
  | tle rs1 o => exact ends_ticc (unlessUnsettled_next h).2
  | tge rs1 o => exact ends_ticc (unlessUnsettled_next h).2
  | tl rs1 o => exact ends_ticc (unlessUnsettled_next h).2
  | tgu rs1 o => exact ends_ticc (unlessUnsettled_next h).2
  | tleu rs1 o => exact ends_ticc (unlessUnsettled_next h).2
  | tcc rs1 o => exact ends_ticc (unlessUnsettled_next h).2
  | tcs rs1 o => exact ends_ticc (unlessUnsettled_next h).2
  | tpos rs1 o => exact ends_ticc (unlessUnsettled_next h).2
  | tneg rs1 o => exact ends_ticc (unlessUnsettled_next h).2
  | tvc rs1 o => exact ends_ticc (unlessUnsettled_next h).2
  | tvs rs1 o => exact ends_ticc (unlessUnsettled_next h).2
  | rdy rd => exact ends_alu (unlessUnsettled_next h).2
  | rdpsr rd => exact ends_supervisor (fun _ => ends_alu) (unlessUnsettled_next h).2
  | rdwim rd => exact ends_supervisor (fun _ => ends_alu) (unlessUnsettled_next h).2
  | rdtbr rd => exact ends_supervisor (fun _ => ends_alu) (unlessUnsettled_next h).2
  | wry rs1 o => exact ends_wry h
  | wrpsr rs1 o => exact ends_wrpsr h
  | wrwim rs1 o => exact ends_wrwim h
  | wrtbr rs1 o => exact ends_wrtbr h
  | fmovs rd rs1 rs2 => exact ends_fpop (unlessUnsettled_next h).2
  | fnegs rd rs1 rs2 => exact ends_fpop (unlessUnsettled_next h).2
  | fabs rd rs1 rs2 => exact ends_fpop (unlessUnsettled_next h).2
  | fadds rd rs1 rs2 => exact ends_fpop (unlessUnsettled_next h).2
  | faddd rd rs1 rs2 => exact ends_fpop (unlessUnsettled_next h).2
  | fsubs rd rs1 rs2 => exact ends_fpop (unlessUnsettled_next h).2
  | fsubd rd rs1 rs2 => exact ends_fpop (unlessUnsettled_next h).2
  | fmuls rd rs1 rs2 => exact ends_fpop (unlessUnsettled_next h).2
  | fmuld rd rs1 rs2 => exact ends_fpop (unlessUnsettled_next h).2
  | fdivs rd rs1 rs2 => exact ends_fpop (unlessUnsettled_next h).2
  | fdivd rd rs1 rs2 => exact ends_fpop (unlessUnsettled_next h).2
  | fitos rd rs1 rs2 => exact ends_fpop (unlessUnsettled_next h).2
  | fstod rd rs1 rs2 => exact ends_fpop (unlessUnsettled_next h).2
  | fdtos rd rs1 rs2 => exact ends_fpop (unlessUnsettled_next h).2
  | fitod rd rs1 rs2 => exact ends_fpop (unlessUnsettled_next h).2
  | fstoi rd rs1 rs2 => exact ends_fpop (unlessUnsettled_next h).2
  | fdtoi rd rs1 rs2 => exact ends_fpop (unlessUnsettled_next h).2
  | fcmps rd rs1 rs2 => exact ends_fpop (unlessUnsettled_next h).2
  | fcmpd rd rs1 rs2 => exact ends_fpop (unlessUnsettled_next h).2
  | fcmpes rd rs1 rs2 => exact ends_fpop (unlessUnsettled_next h).2
  | fcmped rd rs1 rs2 => exact ends_fpop (unlessUnsettled_next h).2
  | fpop1 rd rs1 opf rs2 => exact ends_fpop (unlessUnsettled_next h).2
  | fpop2 rd rs1 opf rs2 => exact ends_fpop (unlessUnsettled_next h).2
  | fba a disp22 => exact ends_withFpu ends_branch (unlessUnsettled_next h).2
  | fbn a disp22 => exact ends_withFpu ends_branch (unlessUnsettled_next h).2
  | fbu a disp22 => exact ends_withFpu ends_branch (unlessUnsettled_next h).2
  | fbg a disp22 => exact ends_withFpu ends_branch (unlessUnsettled_next h).2
  | fbug a disp22 => exact ends_withFpu ends_branch (unlessUnsettled_next h).2
  | fbl a disp22 => exact ends_withFpu ends_branch (unlessUnsettled_next h).2
  | fbul a disp22 => exact ends_withFpu ends_branch (unlessUnsettled_next h).2
  | fblg a disp22 => exact ends_withFpu ends_branch (unlessUnsettled_next h).2
  | fbne a disp22 => exact ends_withFpu ends_branch (unlessUnsettled_next h).2
  | fbe a disp22 => exact ends_withFpu ends_branch (unlessUnsettled_next h).2
  | fbue a disp22 => exact ends_withFpu ends_branch (unlessUnsettled_next h).2
  | fbge a disp22 => exact ends_withFpu ends_branch (unlessUnsettled_next h).2
  | fbuge a disp22 => exact ends_withFpu ends_branch (unlessUnsettled_next h).2
  | fble a disp22 => exact ends_withFpu ends_branch (unlessUnsettled_next h).2
  | fbule a disp22 => exact ends_withFpu ends_branch (unlessUnsettled_next h).2
  | fbo a disp22 => exact ends_withFpu ends_branch (unlessUnsettled_next h).2
  | unimp const22 => exact .ofRaise .refl h
  | iflush rs1 o => exact ends_iflush (rs1 := rs1) (o := o) h

end Sys2Proof.Machine
end

