-- ==== Sys2Proof/Laws/PerInstr.lean ====
section
/-! SUPPORT. The encoder follows spec/opcode_table.json: under a row's mask, the word of that row's instruction is
the row's match value, whatever the operands (30_encoding R122 to R134). One lemma per instruction. -/

namespace Sys2Proof.Laws.MatchesTable

/-- The mask and the match value of the instruction's row in spec/opcode_table.json. -/
def row : Instr → Word × Word
  | .ld _ _ _ => (0xC1F80000#32, 0xC0000000#32)
  | .ldub _ _ _ => (0xC1F80000#32, 0xC0080000#32)
  | .lduh _ _ _ => (0xC1F80000#32, 0xC0100000#32)
  | .ldd _ _ _ => (0xC1F80000#32, 0xC0180000#32)
  | .st _ _ _ => (0xC1F80000#32, 0xC0200000#32)
  | .stb _ _ _ => (0xC1F80000#32, 0xC0280000#32)
  | .sth _ _ _ => (0xC1F80000#32, 0xC0300000#32)
  | .std _ _ _ => (0xC1F80000#32, 0xC0380000#32)
  | .ldsb _ _ _ => (0xC1F80000#32, 0xC0480000#32)
  | .ldsh _ _ _ => (0xC1F80000#32, 0xC0500000#32)
  | .ldstub _ _ _ => (0xC1F80000#32, 0xC0680000#32)
  | .lda _ _ _ => (0xC1F80000#32, 0xC0800000#32)
  | .lduba _ _ _ => (0xC1F80000#32, 0xC0880000#32)
  | .lduha _ _ _ => (0xC1F80000#32, 0xC0900000#32)
  | .ldda _ _ _ => (0xC1F80000#32, 0xC0980000#32)
  | .sta _ _ _ => (0xC1F80000#32, 0xC0A00000#32)
  | .stba _ _ _ => (0xC1F80000#32, 0xC0A80000#32)
  | .stha _ _ _ => (0xC1F80000#32, 0xC0B00000#32)
  | .stda _ _ _ => (0xC1F80000#32, 0xC0B80000#32)
  | .ldsba _ _ _ => (0xC1F80000#32, 0xC0C80000#32)
  | .ldsha _ _ _ => (0xC1F80000#32, 0xC0D00000#32)
  | .ldstuba _ _ _ => (0xC1F80000#32, 0xC0E80000#32)
  | .ldf _ _ _ => (0xC1F80000#32, 0xC1000000#32)
  | .ldfsr _ _ _ => (0xC1F80000#32, 0xC1080000#32)
  | .lddf _ _ _ => (0xC1F80000#32, 0xC1180000#32)
  | .stf _ _ _ => (0xC1F80000#32, 0xC1200000#32)
  | .stfsr _ _ _ => (0xC1F80000#32, 0xC1280000#32)
  | .stdfq _ _ _ => (0xC1F80000#32, 0xC1300000#32)
  | .stdf _ _ _ => (0xC1F80000#32, 0xC1380000#32)
  | .add _ _ _ => (0xC1F80000#32, 0x80000000#32)
  | .addcc _ _ _ => (0xC1F80000#32, 0x80800000#32)
  | .addx _ _ _ => (0xC1F80000#32, 0x80400000#32)
  | .addxcc _ _ _ => (0xC1F80000#32, 0x80C00000#32)
  | .sub _ _ _ => (0xC1F80000#32, 0x80200000#32)
  | .subcc _ _ _ => (0xC1F80000#32, 0x80A00000#32)
  | .subx _ _ _ => (0xC1F80000#32, 0x80600000#32)
  | .subxcc _ _ _ => (0xC1F80000#32, 0x80E00000#32)
  | .taddcc _ _ _ => (0xC1F80000#32, 0x81000000#32)
  | .tsubcc _ _ _ => (0xC1F80000#32, 0x81080000#32)
  | .taddcctv _ _ _ => (0xC1F80000#32, 0x81100000#32)
  | .tsubcctv _ _ _ => (0xC1F80000#32, 0x81180000#32)
  | .mulscc _ _ _ => (0xC1F80000#32, 0x81200000#32)
  | .and _ _ _ => (0xC1F80000#32, 0x80080000#32)
  | .andcc _ _ _ => (0xC1F80000#32, 0x80880000#32)
  | .andn _ _ _ => (0xC1F80000#32, 0x80280000#32)
  | .andncc _ _ _ => (0xC1F80000#32, 0x80A80000#32)
  | .or _ _ _ => (0xC1F80000#32, 0x80100000#32)
  | .orcc _ _ _ => (0xC1F80000#32, 0x80900000#32)
  | .orn _ _ _ => (0xC1F80000#32, 0x80300000#32)
  | .orncc _ _ _ => (0xC1F80000#32, 0x80B00000#32)
  | .xor _ _ _ => (0xC1F80000#32, 0x80180000#32)
  | .xorcc _ _ _ => (0xC1F80000#32, 0x80980000#32)
  | .xnor _ _ _ => (0xC1F80000#32, 0x80380000#32)
  | .xnorcc _ _ _ => (0xC1F80000#32, 0x80B80000#32)
  | .sll _ _ _ => (0xC1F80000#32, 0x81280000#32)
  | .srl _ _ _ => (0xC1F80000#32, 0x81300000#32)
  | .sra _ _ _ => (0xC1F80000#32, 0x81380000#32)
  | .save _ _ _ => (0xC1F80000#32, 0x81E00000#32)
  | .restore _ _ _ => (0xC1F80000#32, 0x81E80000#32)
  | .sethi _ _ => (0xC1C00000#32, 0x01000000#32)
  | .ba _ _ => (0xDFC00000#32, 0x10800000#32)
  | .bn _ _ => (0xDFC00000#32, 0x00800000#32)
  | .bne _ _ => (0xDFC00000#32, 0x12800000#32)
  | .be _ _ => (0xDFC00000#32, 0x02800000#32)
  | .bg _ _ => (0xDFC00000#32, 0x14800000#32)
  | .ble _ _ => (0xDFC00000#32, 0x04800000#32)
  | .bge _ _ => (0xDFC00000#32, 0x16800000#32)
  | .bl _ _ => (0xDFC00000#32, 0x06800000#32)
  | .bgu _ _ => (0xDFC00000#32, 0x18800000#32)
  | .bleu _ _ => (0xDFC00000#32, 0x08800000#32)
  | .bcc _ _ => (0xDFC00000#32, 0x1A800000#32)
  | .bcs _ _ => (0xDFC00000#32, 0x0A800000#32)
  | .bpos _ _ => (0xDFC00000#32, 0x1C800000#32)
  | .bneg _ _ => (0xDFC00000#32, 0x0C800000#32)
  | .bvc _ _ => (0xDFC00000#32, 0x1E800000#32)
  | .bvs _ _ => (0xDFC00000#32, 0x0E800000#32)
  | .call _ => (0xC0000000#32, 0x40000000#32)
  | .jmpl _ _ _ => (0xC1F80000#32, 0x81C00000#32)
  | .rett _ _ => (0xC1F80000#32, 0x81C80000#32)
  | .ta _ _ => (0xDFF80000#32, 0x91D00000#32)
  | .tn _ _ => (0xDFF80000#32, 0x81D00000#32)
  | .tne _ _ => (0xDFF80000#32, 0x93D00000#32)
  | .te _ _ => (0xDFF80000#32, 0x83D00000#32)
  | .tg _ _ => (0xDFF80000#32, 0x95D00000#32)
  | .tle _ _ => (0xDFF80000#32, 0x85D00000#32)
  | .tge _ _ => (0xDFF80000#32, 0x97D00000#32)
  | .tl _ _ => (0xDFF80000#32, 0x87D00000#32)
  | .tgu _ _ => (0xDFF80000#32, 0x99D00000#32)
  | .tleu _ _ => (0xDFF80000#32, 0x89D00000#32)
  | .tcc _ _ => (0xDFF80000#32, 0x9BD00000#32)
  | .tcs _ _ => (0xDFF80000#32, 0x8BD00000#32)
  | .tpos _ _ => (0xDFF80000#32, 0x9DD00000#32)
  | .tneg _ _ => (0xDFF80000#32, 0x8DD00000#32)
  | .tvc _ _ => (0xDFF80000#32, 0x9FD00000#32)
  | .tvs _ _ => (0xDFF80000#32, 0x8FD00000#32)
  | .rdy _ => (0xC1F80000#32, 0x81400000#32)
  | .rdpsr _ => (0xC1F80000#32, 0x81480000#32)
  | .rdwim _ => (0xC1F80000#32, 0x81500000#32)
  | .rdtbr _ => (0xC1F80000#32, 0x81580000#32)
  | .wry _ _ => (0xC1F80000#32, 0x81800000#32)
  | .wrpsr _ _ => (0xC1F80000#32, 0x81880000#32)
  | .wrwim _ _ => (0xC1F80000#32, 0x81900000#32)
  | .wrtbr _ _ => (0xC1F80000#32, 0x81980000#32)
  | .fmovs _ _ _ => (0xC1F83FE0#32, 0x81A00020#32)
  | .fnegs _ _ _ => (0xC1F83FE0#32, 0x81A000A0#32)
  | .fabs _ _ _ => (0xC1F83FE0#32, 0x81A00120#32)
  | .fadds _ _ _ => (0xC1F83FE0#32, 0x81A00820#32)
  | .faddd _ _ _ => (0xC1F83FE0#32, 0x81A00840#32)
  | .fsubs _ _ _ => (0xC1F83FE0#32, 0x81A008A0#32)
  | .fsubd _ _ _ => (0xC1F83FE0#32, 0x81A008C0#32)
  | .fmuls _ _ _ => (0xC1F83FE0#32, 0x81A00920#32)
  | .fmuld _ _ _ => (0xC1F83FE0#32, 0x81A00940#32)
  | .fdivs _ _ _ => (0xC1F83FE0#32, 0x81A009A0#32)
  | .fdivd _ _ _ => (0xC1F83FE0#32, 0x81A009C0#32)
  | .fitos _ _ _ => (0xC1F83FE0#32, 0x81A01880#32)
  | .fstod _ _ _ => (0xC1F83FE0#32, 0x81A018A0#32)
  | .fdtos _ _ _ => (0xC1F83FE0#32, 0x81A018C0#32)
  | .fitod _ _ _ => (0xC1F83FE0#32, 0x81A01900#32)
  | .fstoi _ _ _ => (0xC1F83FE0#32, 0x81A01A20#32)
  | .fdtoi _ _ _ => (0xC1F83FE0#32, 0x81A01A40#32)
  | .fcmps _ _ _ => (0xC1F83FE0#32, 0x81A80A20#32)
  | .fcmpd _ _ _ => (0xC1F83FE0#32, 0x81A80A40#32)
  | .fcmpes _ _ _ => (0xC1F83FE0#32, 0x81A80AA0#32)
  | .fcmped _ _ _ => (0xC1F83FE0#32, 0x81A80AC0#32)
  | .fpop1 _ _ _ _ => (0xC1F80000#32, 0x81A00000#32)
  | .fpop2 _ _ _ _ => (0xC1F80000#32, 0x81A80000#32)
  | .fba _ _ => (0xDFC00000#32, 0x11800000#32)
  | .fbn _ _ => (0xDFC00000#32, 0x01800000#32)
  | .fbu _ _ => (0xDFC00000#32, 0x0F800000#32)
  | .fbg _ _ => (0xDFC00000#32, 0x0D800000#32)
  | .fbug _ _ => (0xDFC00000#32, 0x0B800000#32)
  | .fbl _ _ => (0xDFC00000#32, 0x09800000#32)
  | .fbul _ _ => (0xDFC00000#32, 0x07800000#32)
  | .fblg _ _ => (0xDFC00000#32, 0x05800000#32)
  | .fbne _ _ => (0xDFC00000#32, 0x03800000#32)
  | .fbe _ _ => (0xDFC00000#32, 0x13800000#32)
  | .fbue _ _ => (0xDFC00000#32, 0x15800000#32)
  | .fbge _ _ => (0xDFC00000#32, 0x17800000#32)
  | .fbuge _ _ => (0xDFC00000#32, 0x19800000#32)
  | .fble _ _ => (0xDFC00000#32, 0x1B800000#32)
  | .fbule _ _ => (0xDFC00000#32, 0x1D800000#32)
  | .fbo _ _ => (0xDFC00000#32, 0x1F800000#32)
  | .unimp _ => (0xC1C00000#32, 0x00000000#32)
  | .iflush _ _ => (0xC1F80000#32, 0x81D80000#32)

/-- The word of the instruction has its row's fixed bits. -/
def Statement (i : Instr) : Prop := encode i &&& (row i).1 = (row i).2

theorem ld (rd : RegNum) (rs1 : RegNum) (o : RegImm) : Statement (.ld rd rs1 o) :=
  fmt3_mask _ _ _ _ _
theorem ldub (rd : RegNum) (rs1 : RegNum) (o : RegImm) : Statement (.ldub rd rs1 o) :=
  fmt3_mask _ _ _ _ _
theorem lduh (rd : RegNum) (rs1 : RegNum) (o : RegImm) : Statement (.lduh rd rs1 o) :=
  fmt3_mask _ _ _ _ _
theorem ldd (rd : RegNum) (rs1 : RegNum) (o : RegImm) : Statement (.ldd rd rs1 o) :=
  fmt3_mask _ _ _ _ _
theorem st (rd : RegNum) (rs1 : RegNum) (o : RegImm) : Statement (.st rd rs1 o) :=
  fmt3_mask _ _ _ _ _
theorem stb (rd : RegNum) (rs1 : RegNum) (o : RegImm) : Statement (.stb rd rs1 o) :=
  fmt3_mask _ _ _ _ _
theorem sth (rd : RegNum) (rs1 : RegNum) (o : RegImm) : Statement (.sth rd rs1 o) :=
  fmt3_mask _ _ _ _ _
theorem std (rd : RegNum) (rs1 : RegNum) (o : RegImm) : Statement (.std rd rs1 o) :=
  fmt3_mask _ _ _ _ _
theorem ldsb (rd : RegNum) (rs1 : RegNum) (o : RegImm) : Statement (.ldsb rd rs1 o) :=
  fmt3_mask _ _ _ _ _
theorem ldsh (rd : RegNum) (rs1 : RegNum) (o : RegImm) : Statement (.ldsh rd rs1 o) :=
  fmt3_mask _ _ _ _ _
theorem ldstub (rd : RegNum) (rs1 : RegNum) (o : RegImm) : Statement (.ldstub rd rs1 o) :=
  fmt3_mask _ _ _ _ _
theorem lda (rd : RegNum) (rs1 : RegNum) (a : AltOperand) : Statement (.lda rd rs1 a) :=
  fmt3_mask _ _ _ _ _
theorem lduba (rd : RegNum) (rs1 : RegNum) (a : AltOperand) : Statement (.lduba rd rs1 a) :=
  fmt3_mask _ _ _ _ _
theorem lduha (rd : RegNum) (rs1 : RegNum) (a : AltOperand) : Statement (.lduha rd rs1 a) :=
  fmt3_mask _ _ _ _ _
theorem ldda (rd : RegNum) (rs1 : RegNum) (a : AltOperand) : Statement (.ldda rd rs1 a) :=
  fmt3_mask _ _ _ _ _
theorem sta (rd : RegNum) (rs1 : RegNum) (a : AltOperand) : Statement (.sta rd rs1 a) :=
  fmt3_mask _ _ _ _ _
theorem stba (rd : RegNum) (rs1 : RegNum) (a : AltOperand) : Statement (.stba rd rs1 a) :=
  fmt3_mask _ _ _ _ _
theorem stha (rd : RegNum) (rs1 : RegNum) (a : AltOperand) : Statement (.stha rd rs1 a) :=
  fmt3_mask _ _ _ _ _
theorem stda (rd : RegNum) (rs1 : RegNum) (a : AltOperand) : Statement (.stda rd rs1 a) :=
  fmt3_mask _ _ _ _ _
theorem ldsba (rd : RegNum) (rs1 : RegNum) (a : AltOperand) : Statement (.ldsba rd rs1 a) :=
  fmt3_mask _ _ _ _ _
theorem ldsha (rd : RegNum) (rs1 : RegNum) (a : AltOperand) : Statement (.ldsha rd rs1 a) :=
  fmt3_mask _ _ _ _ _
theorem ldstuba (rd : RegNum) (rs1 : RegNum) (a : AltOperand) : Statement (.ldstuba rd rs1 a) :=
  fmt3_mask _ _ _ _ _
theorem ldf (rd : RegNum) (rs1 : RegNum) (a : FpOperand) : Statement (.ldf rd rs1 a) :=
  fmt3_mask _ _ _ _ _
theorem ldfsr (rd : RegNum) (rs1 : RegNum) (a : FpOperand) : Statement (.ldfsr rd rs1 a) :=
  fmt3_mask _ _ _ _ _
theorem lddf (rd : RegNum) (rs1 : RegNum) (a : FpOperand) : Statement (.lddf rd rs1 a) :=
  fmt3_mask _ _ _ _ _
theorem stf (rd : RegNum) (rs1 : RegNum) (a : FpOperand) : Statement (.stf rd rs1 a) :=
  fmt3_mask _ _ _ _ _
theorem stfsr (rd : RegNum) (rs1 : RegNum) (a : FpOperand) : Statement (.stfsr rd rs1 a) :=
  fmt3_mask _ _ _ _ _
theorem stdfq (rd : RegNum) (rs1 : RegNum) (a : FpOperand) : Statement (.stdfq rd rs1 a) :=
  fmt3_mask _ _ _ _ _
theorem stdf (rd : RegNum) (rs1 : RegNum) (a : FpOperand) : Statement (.stdf rd rs1 a) :=
  fmt3_mask _ _ _ _ _
theorem add (rd : RegNum) (rs1 : RegNum) (o : RegImm) : Statement (.add rd rs1 o) :=
  fmt3_mask _ _ _ _ _
theorem addcc (rd : RegNum) (rs1 : RegNum) (o : RegImm) : Statement (.addcc rd rs1 o) :=
  fmt3_mask _ _ _ _ _
theorem addx (rd : RegNum) (rs1 : RegNum) (o : RegImm) : Statement (.addx rd rs1 o) :=
  fmt3_mask _ _ _ _ _
theorem addxcc (rd : RegNum) (rs1 : RegNum) (o : RegImm) : Statement (.addxcc rd rs1 o) :=
  fmt3_mask _ _ _ _ _
theorem sub (rd : RegNum) (rs1 : RegNum) (o : RegImm) : Statement (.sub rd rs1 o) :=
  fmt3_mask _ _ _ _ _
theorem subcc (rd : RegNum) (rs1 : RegNum) (o : RegImm) : Statement (.subcc rd rs1 o) :=
  fmt3_mask _ _ _ _ _
theorem subx (rd : RegNum) (rs1 : RegNum) (o : RegImm) : Statement (.subx rd rs1 o) :=
  fmt3_mask _ _ _ _ _
theorem subxcc (rd : RegNum) (rs1 : RegNum) (o : RegImm) : Statement (.subxcc rd rs1 o) :=
  fmt3_mask _ _ _ _ _
theorem taddcc (rd : RegNum) (rs1 : RegNum) (o : RegImm) : Statement (.taddcc rd rs1 o) :=
  fmt3_mask _ _ _ _ _
theorem tsubcc (rd : RegNum) (rs1 : RegNum) (o : RegImm) : Statement (.tsubcc rd rs1 o) :=
  fmt3_mask _ _ _ _ _
theorem taddcctv (rd : RegNum) (rs1 : RegNum) (o : RegImm) : Statement (.taddcctv rd rs1 o) :=
  fmt3_mask _ _ _ _ _
theorem tsubcctv (rd : RegNum) (rs1 : RegNum) (o : RegImm) : Statement (.tsubcctv rd rs1 o) :=
  fmt3_mask _ _ _ _ _
theorem mulscc (rd : RegNum) (rs1 : RegNum) (o : RegImm) : Statement (.mulscc rd rs1 o) :=
  fmt3_mask _ _ _ _ _
theorem and (rd : RegNum) (rs1 : RegNum) (o : RegImm) : Statement (.and rd rs1 o) :=
  fmt3_mask _ _ _ _ _
theorem andcc (rd : RegNum) (rs1 : RegNum) (o : RegImm) : Statement (.andcc rd rs1 o) :=
  fmt3_mask _ _ _ _ _
theorem andn (rd : RegNum) (rs1 : RegNum) (o : RegImm) : Statement (.andn rd rs1 o) :=
  fmt3_mask _ _ _ _ _
theorem andncc (rd : RegNum) (rs1 : RegNum) (o : RegImm) : Statement (.andncc rd rs1 o) :=
  fmt3_mask _ _ _ _ _
theorem or (rd : RegNum) (rs1 : RegNum) (o : RegImm) : Statement (.or rd rs1 o) :=
  fmt3_mask _ _ _ _ _
theorem orcc (rd : RegNum) (rs1 : RegNum) (o : RegImm) : Statement (.orcc rd rs1 o) :=
  fmt3_mask _ _ _ _ _
theorem orn (rd : RegNum) (rs1 : RegNum) (o : RegImm) : Statement (.orn rd rs1 o) :=
  fmt3_mask _ _ _ _ _
theorem orncc (rd : RegNum) (rs1 : RegNum) (o : RegImm) : Statement (.orncc rd rs1 o) :=
  fmt3_mask _ _ _ _ _
theorem xor (rd : RegNum) (rs1 : RegNum) (o : RegImm) : Statement (.xor rd rs1 o) :=
  fmt3_mask _ _ _ _ _
theorem xorcc (rd : RegNum) (rs1 : RegNum) (o : RegImm) : Statement (.xorcc rd rs1 o) :=
  fmt3_mask _ _ _ _ _
theorem xnor (rd : RegNum) (rs1 : RegNum) (o : RegImm) : Statement (.xnor rd rs1 o) :=
  fmt3_mask _ _ _ _ _
theorem xnorcc (rd : RegNum) (rs1 : RegNum) (o : RegImm) : Statement (.xnorcc rd rs1 o) :=
  fmt3_mask _ _ _ _ _
theorem sll (rd : RegNum) (rs1 : RegNum) (o : RegImm) : Statement (.sll rd rs1 o) :=
  fmt3_mask _ _ _ _ _
theorem srl (rd : RegNum) (rs1 : RegNum) (o : RegImm) : Statement (.srl rd rs1 o) :=
  fmt3_mask _ _ _ _ _
theorem sra (rd : RegNum) (rs1 : RegNum) (o : RegImm) : Statement (.sra rd rs1 o) :=
  fmt3_mask _ _ _ _ _
theorem save (rd : RegNum) (rs1 : RegNum) (o : RegImm) : Statement (.save rd rs1 o) :=
  fmt3_mask _ _ _ _ _
theorem restore (rd : RegNum) (rs1 : RegNum) (o : RegImm) : Statement (.restore rd rs1 o) :=
  fmt3_mask _ _ _ _ _
theorem sethi (rd : RegNum) (imm22 : BitVec 22) : Statement (.sethi rd imm22) :=
  fmt2a_mask _ _ _
theorem ba (a : Bool) (disp22 : BitVec 22) : Statement (.ba a disp22) :=
  fmt2b_mask _ _ _ _
theorem bn (a : Bool) (disp22 : BitVec 22) : Statement (.bn a disp22) :=
  fmt2b_mask _ _ _ _
theorem bne (a : Bool) (disp22 : BitVec 22) : Statement (.bne a disp22) :=
  fmt2b_mask _ _ _ _
theorem be (a : Bool) (disp22 : BitVec 22) : Statement (.be a disp22) :=
  fmt2b_mask _ _ _ _
theorem bg (a : Bool) (disp22 : BitVec 22) : Statement (.bg a disp22) :=
  fmt2b_mask _ _ _ _
theorem ble (a : Bool) (disp22 : BitVec 22) : Statement (.ble a disp22) :=
  fmt2b_mask _ _ _ _
theorem bge (a : Bool) (disp22 : BitVec 22) : Statement (.bge a disp22) :=
  fmt2b_mask _ _ _ _
theorem bl (a : Bool) (disp22 : BitVec 22) : Statement (.bl a disp22) :=
  fmt2b_mask _ _ _ _
theorem bgu (a : Bool) (disp22 : BitVec 22) : Statement (.bgu a disp22) :=
  fmt2b_mask _ _ _ _
theorem bleu (a : Bool) (disp22 : BitVec 22) : Statement (.bleu a disp22) :=
  fmt2b_mask _ _ _ _
theorem bcc (a : Bool) (disp22 : BitVec 22) : Statement (.bcc a disp22) :=
  fmt2b_mask _ _ _ _
theorem bcs (a : Bool) (disp22 : BitVec 22) : Statement (.bcs a disp22) :=
  fmt2b_mask _ _ _ _
theorem bpos (a : Bool) (disp22 : BitVec 22) : Statement (.bpos a disp22) :=
  fmt2b_mask _ _ _ _
theorem bneg (a : Bool) (disp22 : BitVec 22) : Statement (.bneg a disp22) :=
  fmt2b_mask _ _ _ _
theorem bvc (a : Bool) (disp22 : BitVec 22) : Statement (.bvc a disp22) :=
  fmt2b_mask _ _ _ _
theorem bvs (a : Bool) (disp22 : BitVec 22) : Statement (.bvs a disp22) :=
  fmt2b_mask _ _ _ _
theorem call (disp30 : BitVec 30) : Statement (.call disp30) :=
  fmt1_mask _
theorem jmpl (rd : RegNum) (rs1 : RegNum) (o : RegImm) : Statement (.jmpl rd rs1 o) :=
  fmt3_mask _ _ _ _ _
theorem rett (rs1 : RegNum) (o : RegImm) : Statement (.rett rs1 o) :=
  fmt3_mask _ _ _ _ _
theorem ta (rs1 : RegNum) (o : RegImm) : Statement (.ta rs1 o) :=
  fmt3_cond_mask 2#2 8#4 0x3a#6 rs1 (tailRegImm o)
theorem tn (rs1 : RegNum) (o : RegImm) : Statement (.tn rs1 o) :=
  fmt3_cond_mask 2#2 0#4 0x3a#6 rs1 (tailRegImm o)
theorem tne (rs1 : RegNum) (o : RegImm) : Statement (.tne rs1 o) :=
  fmt3_cond_mask 2#2 9#4 0x3a#6 rs1 (tailRegImm o)
theorem te (rs1 : RegNum) (o : RegImm) : Statement (.te rs1 o) :=
  fmt3_cond_mask 2#2 1#4 0x3a#6 rs1 (tailRegImm o)
theorem tg (rs1 : RegNum) (o : RegImm) : Statement (.tg rs1 o) :=
  fmt3_cond_mask 2#2 10#4 0x3a#6 rs1 (tailRegImm o)
theorem tle (rs1 : RegNum) (o : RegImm) : Statement (.tle rs1 o) :=
  fmt3_cond_mask 2#2 2#4 0x3a#6 rs1 (tailRegImm o)
theorem tge (rs1 : RegNum) (o : RegImm) : Statement (.tge rs1 o) :=
  fmt3_cond_mask 2#2 11#4 0x3a#6 rs1 (tailRegImm o)
theorem tl (rs1 : RegNum) (o : RegImm) : Statement (.tl rs1 o) :=
  fmt3_cond_mask 2#2 3#4 0x3a#6 rs1 (tailRegImm o)
theorem tgu (rs1 : RegNum) (o : RegImm) : Statement (.tgu rs1 o) :=
  fmt3_cond_mask 2#2 12#4 0x3a#6 rs1 (tailRegImm o)
theorem tleu (rs1 : RegNum) (o : RegImm) : Statement (.tleu rs1 o) :=
  fmt3_cond_mask 2#2 4#4 0x3a#6 rs1 (tailRegImm o)
theorem tcc (rs1 : RegNum) (o : RegImm) : Statement (.tcc rs1 o) :=
  fmt3_cond_mask 2#2 13#4 0x3a#6 rs1 (tailRegImm o)
theorem tcs (rs1 : RegNum) (o : RegImm) : Statement (.tcs rs1 o) :=
  fmt3_cond_mask 2#2 5#4 0x3a#6 rs1 (tailRegImm o)
theorem tpos (rs1 : RegNum) (o : RegImm) : Statement (.tpos rs1 o) :=
  fmt3_cond_mask 2#2 14#4 0x3a#6 rs1 (tailRegImm o)
theorem tneg (rs1 : RegNum) (o : RegImm) : Statement (.tneg rs1 o) :=
  fmt3_cond_mask 2#2 6#4 0x3a#6 rs1 (tailRegImm o)
theorem tvc (rs1 : RegNum) (o : RegImm) : Statement (.tvc rs1 o) :=
  fmt3_cond_mask 2#2 15#4 0x3a#6 rs1 (tailRegImm o)
theorem tvs (rs1 : RegNum) (o : RegImm) : Statement (.tvs rs1 o) :=
  fmt3_cond_mask 2#2 7#4 0x3a#6 rs1 (tailRegImm o)
theorem rdy (rd : RegNum) : Statement (.rdy rd) :=
  fmt3_mask _ _ _ _ _
theorem rdpsr (rd : RegNum) : Statement (.rdpsr rd) :=
  fmt3_mask _ _ _ _ _
theorem rdwim (rd : RegNum) : Statement (.rdwim rd) :=
  fmt3_mask _ _ _ _ _
theorem rdtbr (rd : RegNum) : Statement (.rdtbr rd) :=
  fmt3_mask _ _ _ _ _
theorem wry (rs1 : RegNum) (o : RegImm) : Statement (.wry rs1 o) :=
  fmt3_mask _ _ _ _ _
theorem wrpsr (rs1 : RegNum) (o : RegImm) : Statement (.wrpsr rs1 o) :=
  fmt3_mask _ _ _ _ _
theorem wrwim (rs1 : RegNum) (o : RegImm) : Statement (.wrwim rs1 o) :=
  fmt3_mask _ _ _ _ _
theorem wrtbr (rs1 : RegNum) (o : RegImm) : Statement (.wrtbr rs1 o) :=
  fmt3_mask _ _ _ _ _
theorem fmovs (rd : RegNum) (rs1 : RegNum) (rs2 : RegNum) : Statement (.fmovs rd rs1 rs2) :=
  fmt3_opf_mask _ _ _ _ _ _
theorem fnegs (rd : RegNum) (rs1 : RegNum) (rs2 : RegNum) : Statement (.fnegs rd rs1 rs2) :=
  fmt3_opf_mask _ _ _ _ _ _
theorem fabs (rd : RegNum) (rs1 : RegNum) (rs2 : RegNum) : Statement (.fabs rd rs1 rs2) :=
  fmt3_opf_mask _ _ _ _ _ _
theorem fadds (rd : RegNum) (rs1 : RegNum) (rs2 : RegNum) : Statement (.fadds rd rs1 rs2) :=
  fmt3_opf_mask _ _ _ _ _ _
theorem faddd (rd : RegNum) (rs1 : RegNum) (rs2 : RegNum) : Statement (.faddd rd rs1 rs2) :=
  fmt3_opf_mask _ _ _ _ _ _
theorem fsubs (rd : RegNum) (rs1 : RegNum) (rs2 : RegNum) : Statement (.fsubs rd rs1 rs2) :=
  fmt3_opf_mask _ _ _ _ _ _
theorem fsubd (rd : RegNum) (rs1 : RegNum) (rs2 : RegNum) : Statement (.fsubd rd rs1 rs2) :=
  fmt3_opf_mask _ _ _ _ _ _
theorem fmuls (rd : RegNum) (rs1 : RegNum) (rs2 : RegNum) : Statement (.fmuls rd rs1 rs2) :=
  fmt3_opf_mask _ _ _ _ _ _
theorem fmuld (rd : RegNum) (rs1 : RegNum) (rs2 : RegNum) : Statement (.fmuld rd rs1 rs2) :=
  fmt3_opf_mask _ _ _ _ _ _
theorem fdivs (rd : RegNum) (rs1 : RegNum) (rs2 : RegNum) : Statement (.fdivs rd rs1 rs2) :=
  fmt3_opf_mask _ _ _ _ _ _
theorem fdivd (rd : RegNum) (rs1 : RegNum) (rs2 : RegNum) : Statement (.fdivd rd rs1 rs2) :=
  fmt3_opf_mask _ _ _ _ _ _
theorem fitos (rd : RegNum) (rs1 : RegNum) (rs2 : RegNum) : Statement (.fitos rd rs1 rs2) :=
  fmt3_opf_mask _ _ _ _ _ _
theorem fstod (rd : RegNum) (rs1 : RegNum) (rs2 : RegNum) : Statement (.fstod rd rs1 rs2) :=
  fmt3_opf_mask _ _ _ _ _ _
theorem fdtos (rd : RegNum) (rs1 : RegNum) (rs2 : RegNum) : Statement (.fdtos rd rs1 rs2) :=
  fmt3_opf_mask _ _ _ _ _ _
theorem fitod (rd : RegNum) (rs1 : RegNum) (rs2 : RegNum) : Statement (.fitod rd rs1 rs2) :=
  fmt3_opf_mask _ _ _ _ _ _
theorem fstoi (rd : RegNum) (rs1 : RegNum) (rs2 : RegNum) : Statement (.fstoi rd rs1 rs2) :=
  fmt3_opf_mask _ _ _ _ _ _
theorem fdtoi (rd : RegNum) (rs1 : RegNum) (rs2 : RegNum) : Statement (.fdtoi rd rs1 rs2) :=
  fmt3_opf_mask _ _ _ _ _ _
theorem fcmps (rd : RegNum) (rs1 : RegNum) (rs2 : RegNum) : Statement (.fcmps rd rs1 rs2) :=
  fmt3_opf_mask _ _ _ _ _ _
theorem fcmpd (rd : RegNum) (rs1 : RegNum) (rs2 : RegNum) : Statement (.fcmpd rd rs1 rs2) :=
  fmt3_opf_mask _ _ _ _ _ _
theorem fcmpes (rd : RegNum) (rs1 : RegNum) (rs2 : RegNum) : Statement (.fcmpes rd rs1 rs2) :=
  fmt3_opf_mask _ _ _ _ _ _
theorem fcmped (rd : RegNum) (rs1 : RegNum) (rs2 : RegNum) : Statement (.fcmped rd rs1 rs2) :=
  fmt3_opf_mask _ _ _ _ _ _
theorem fpop1 (rd : RegNum) (rs1 : RegNum) (opf : BitVec 9) (rs2 : RegNum) : Statement (.fpop1 rd rs1 opf rs2) :=
  fmt3_mask _ _ _ _ _
theorem fpop2 (rd : RegNum) (rs1 : RegNum) (opf : BitVec 9) (rs2 : RegNum) : Statement (.fpop2 rd rs1 opf rs2) :=
  fmt3_mask _ _ _ _ _
theorem fba (a : Bool) (disp22 : BitVec 22) : Statement (.fba a disp22) :=
  fmt2b_mask _ _ _ _
theorem fbn (a : Bool) (disp22 : BitVec 22) : Statement (.fbn a disp22) :=
  fmt2b_mask _ _ _ _
theorem fbu (a : Bool) (disp22 : BitVec 22) : Statement (.fbu a disp22) :=
  fmt2b_mask _ _ _ _
theorem fbg (a : Bool) (disp22 : BitVec 22) : Statement (.fbg a disp22) :=
  fmt2b_mask _ _ _ _
theorem fbug (a : Bool) (disp22 : BitVec 22) : Statement (.fbug a disp22) :=
  fmt2b_mask _ _ _ _
theorem fbl (a : Bool) (disp22 : BitVec 22) : Statement (.fbl a disp22) :=
  fmt2b_mask _ _ _ _
theorem fbul (a : Bool) (disp22 : BitVec 22) : Statement (.fbul a disp22) :=
  fmt2b_mask _ _ _ _
theorem fblg (a : Bool) (disp22 : BitVec 22) : Statement (.fblg a disp22) :=
  fmt2b_mask _ _ _ _
theorem fbne (a : Bool) (disp22 : BitVec 22) : Statement (.fbne a disp22) :=
  fmt2b_mask _ _ _ _
theorem fbe (a : Bool) (disp22 : BitVec 22) : Statement (.fbe a disp22) :=
  fmt2b_mask _ _ _ _
theorem fbue (a : Bool) (disp22 : BitVec 22) : Statement (.fbue a disp22) :=
  fmt2b_mask _ _ _ _
theorem fbge (a : Bool) (disp22 : BitVec 22) : Statement (.fbge a disp22) :=
  fmt2b_mask _ _ _ _
theorem fbuge (a : Bool) (disp22 : BitVec 22) : Statement (.fbuge a disp22) :=
  fmt2b_mask _ _ _ _
theorem fble (a : Bool) (disp22 : BitVec 22) : Statement (.fble a disp22) :=
  fmt2b_mask _ _ _ _
theorem fbule (a : Bool) (disp22 : BitVec 22) : Statement (.fbule a disp22) :=
  fmt2b_mask _ _ _ _
theorem fbo (a : Bool) (disp22 : BitVec 22) : Statement (.fbo a disp22) :=
  fmt2b_mask _ _ _ _
theorem unimp (const22 : BitVec 22) : Statement (.unimp const22) :=
  fmt2a_mask _ _ _
theorem iflush (rs1 : RegNum) (o : RegImm) : Statement (.iflush rs1 o) :=
  fmt3_mask _ _ _ _ _

end Sys2Proof.Laws.MatchesTable
end

