-- ==== Sys2Proof/Tests/Slice0.lean ====
section
/-! SUPPORT. Tests: ill-formed terms refused, words decoded, one-step vectors, and a witness for the hypotheses of each
statement. Words come from the patterns of spec/opcode_table.json and from 95_test_vectors 2.1; the expected results
of steps come from 95_test_vectors part 2 and from the rules named. -/

namespace Sys2Proof.Tests
open Sys2Proof Sys2Proof.Machine

/-! ### Well-formedness: the checks, each on a term it refuses (30_encoding R134) -/

theorem test_wellFormed_refuses_named_fpop1 : (Instr.fpop1 2 0 0x041 1).wellFormed = false := by decide
theorem test_wellFormed_refuses_named_fpop2 : (Instr.fpop2 2 0 0x051 1).wellFormed = false := by decide
theorem test_wellFormed_accepts_other_fpops :
    (Instr.fpop1 2 0 0x0C9 1).wellFormed = true ∧ (Instr.fpop2 2 0 0x041 1).wellFormed = true := by decide
theorem test_wellFormed_refuses_every_named_opf :
    (namedOpf1.all fun o => !(Instr.fpop1 0 0 o 0).wellFormed) ∧
      (namedOpf2.all fun o => !(Instr.fpop2 0 0 o 0).wellFormed) := by decide

/-! ### Decoding: every constructor by a word of its row

Each word is the row's match value with operands placed by 30_encoding R122 to R129: rd 29:25, rs1 18:14, i 13, asi
12:5, opf 13:5, rs2 4:0, simm13 12:0, a 29, disp22 and imm22 21:0, disp30 29:0. -/

/-- Each word decodes to the instruction beside it. -/
def decodesTo (rows : List (Nat × Instr)) : Bool :=
  rows.all fun r => decode (BitVec.ofNat 32 r.1) == .instr r.2

theorem test_decode_loads_and_stores : decodesTo [
    (0xD201000C, .ld 9 4 (.reg 12)),
    (0xD409F04A, .ldub 10 7 (.imm 0x104A)),
    (0xD612801A, .lduh 11 10 (.reg 26)),
    (0xD81B7094, .ldd 12 13 (.imm 0x1094)),
    (0xDA240008, .st 13 16 (.reg 8)),
    (0xDC2CF0DE, .stb 14 19 (.imm 0x10DE)),
    (0xDE358016, .sth 15 22 (.reg 22)),
    (0xE03E7128, .std 16 25 (.imm 0x1128)),
    (0xE24F0004, .ldsb 17 28 (.reg 4)),
    (0xE457F172, .ldsh 18 31 (.imm 0x1172)),
    (0xE6688012, .ldstub 19 2 (.reg 18))] = true := by decide

theorem test_decode_alternate_space : decodesTo [
    (0xE8814099, .lda 20 5 (.reg 0x04 25)),
    (0xEA8A01E0, .lduba 21 8 (.reg 0x0F 0)),
    (0xEC92C347, .lduha 22 11 (.reg 0x1A 7)),
    (0xEE9B84AE, .ldda 23 14 (.reg 0x25 14)),
    (0xF0A44615, .sta 24 17 (.reg 0x30 21)),
    (0xF2AD077C, .stba 25 20 (.reg 0x3B 28)),
    (0xF4B5C8C3, .stha 26 23 (.reg 0x46 3)),
    (0xF6BE8A2A, .stda 27 26 (.reg 0x51 10)),
    (0xF8CF4B91, .ldsba 28 29 (.reg 0x5C 17)),
    (0xFAD00CF8, .ldsha 29 0 (.reg 0x67 24)),
    (0xFCE8CE5F, .ldstuba 30 3 (.reg 0x72 31))] = true := by decide

theorem test_decode_float_memory : decodesTo [
    (0xFF018FA6, .ldf 31 6 (.reg 0x7D 6)),
    (0xD30A7378, .ldfsr 9 9 (.imm 0x1378)),
    (0xC31B1274, .lddf 1 12 (.reg 0x93 20)),
    (0xC523F3C2, .stf 2 15 (.imm 0x13C2)),
    (0xC72C9522, .stfsr 3 18 (.reg 0xA9 2)),
    (0xC935740C, .stdfq 4 21 (.imm 0x140C)),
    (0xCB3E17F0, .stdf 5 24 (.reg 0xBF 16))] = true := by decide

theorem test_decode_add_subtract : decodesTo [
    (0x8C06F456, .add 6 27 (.imm 0x1456)),
    (0x8E87801E, .addcc 7 30 (.reg 30)),
    (0x904074A0, .addx 8 1 (.imm 0x14A0)),
    (0x92C1000C, .addxcc 9 4 (.reg 12)),
    (0x9421F4EA, .sub 10 7 (.imm 0x14EA)),
    (0x96A2801A, .subcc 11 10 (.reg 26)),
    (0x98637534, .subx 12 13 (.imm 0x1534)),
    (0x9AE40008, .subxcc 13 16 (.reg 8)),
    (0x9D04F57E, .taddcc 14 19 (.imm 0x157E)),
    (0x9F0D8016, .tsubcc 15 22 (.reg 22)),
    (0xA11675C8, .taddcctv 16 25 (.imm 0x15C8)),
    (0xA31F0004, .tsubcctv 17 28 (.reg 4)),
    (0xA527F612, .mulscc 18 31 (.imm 0x1612))] = true := by decide

theorem test_decode_logic_shift_window : decodesTo [
    (0xA6088012, .and 19 2 (.reg 18)),
    (0xA889765C, .andcc 20 5 (.imm 0x165C)),
    (0xAA2A0000, .andn 21 8 (.reg 0)),
    (0xACAAF6A6, .andncc 22 11 (.imm 0x16A6)),
    (0xAE13800E, .or 23 14 (.reg 14)),
    (0xB09476F0, .orcc 24 17 (.imm 0x16F0)),
    (0xB235001C, .orn 25 20 (.reg 28)),
    (0xB4B5F73A, .orncc 26 23 (.imm 0x173A)),
    (0xB61E800A, .xor 27 26 (.reg 10)),
    (0xB89F7784, .xorcc 28 29 (.imm 0x1784)),
    (0xBA380018, .xnor 29 0 (.reg 24)),
    (0xBCB8F7CE, .xnorcc 30 3 (.imm 0x17CE)),
    (0xBF298006, .sll 31 6 (.reg 6)),
    (0x93327818, .srl 9 9 (.imm 0x1818)),
    (0x833B0014, .sra 1 12 (.reg 20)),
    (0x85E3F862, .save 2 15 (.imm 0x1862)),
    (0x87EC8002, .restore 3 18 (.reg 2)),
    (0x09244431, .sethi 4 0x244431)] = true := by decide

theorem test_decode_branches : decodesTo [
    (0x30A45665, .ba true 0x245665),
    (0x00A46899, .bn false 0x246899),
    (0x32A47ACD, .bne true 0x247ACD),
    (0x02A48D01, .be false 0x248D01),
    (0x34A49F35, .bg true 0x249F35),
    (0x04A4B169, .ble false 0x24B169),
    (0x36A4C39D, .bge true 0x24C39D),
    (0x06A4D5D1, .bl false 0x24D5D1),
    (0x38A4E805, .bgu true 0x24E805),
    (0x08A4FA39, .bleu false 0x24FA39),
    (0x3AA50C6D, .bcc true 0x250C6D),
    (0x0AA51EA1, .bcs false 0x251EA1),
    (0x3CA530D5, .bpos true 0x2530D5),
    (0x0CA54309, .bneg false 0x254309),
    (0x3EA5553D, .bvc true 0x25553D),
    (0x0EA56771, .bvs false 0x256771)] = true := by decide

theorem test_decode_call_jmpl_rett : decodesTo [
    (0x6ABCDE01, .call 0x2ABCDE01),
    (0xADC2FB46, .jmpl 22 11 (.imm 0x1B46)),
    (0x81CB800E, .rett 14 (.reg 14))] = true := by decide

theorem test_decode_ticc : decodesTo [
    (0x91D47B90, .ta 17 (.imm 0x1B90)),
    (0x81D5001C, .tn 20 (.reg 28)),
    (0x93D5FBDA, .tne 23 (.imm 0x1BDA)),
    (0x83D6800A, .te 26 (.reg 10)),
    (0x95D77C24, .tg 29 (.imm 0x1C24)),
    (0x85D00018, .tle 0 (.reg 24)),
    (0x97D0FC6E, .tge 3 (.imm 0x1C6E)),
    (0x87D18006, .tl 6 (.reg 6)),
    (0x99D27CB8, .tgu 9 (.imm 0x1CB8)),
    (0x89D30014, .tleu 12 (.reg 20)),
    (0x9BD3FD02, .tcc 15 (.imm 0x1D02)),
    (0x8BD48002, .tcs 18 (.reg 2)),
    (0x9DD57D4C, .tpos 21 (.imm 0x1D4C)),
    (0x8DD60010, .tneg 24 (.reg 16)),
    (0x9FD6FD96, .tvc 27 (.imm 0x1D96)),
    (0x8FD7801E, .tvs 30 (.reg 30))] = true := by decide

theorem test_decode_state_registers : decodesTo [
    (0x91400000, .rdy 8),
    (0x93480000, .rdpsr 9),
    (0x95500000, .rdwim 10),
    (0x97580000, .rdtbr 11),
    (0x81837E74, .wry 13 (.imm 0x1E74)),
    (0x818C0008, .wrpsr 16 (.reg 8)),
    (0x8194FEBE, .wrwim 19 (.imm 0x1EBE)),
    (0x819D8016, .wrtbr 22 (.reg 22))] = true := by decide

theorem test_decode_float_operate : decodesTo [
    (0xA1A6402A, .fmovs 16 25 10),
    (0xA3A700AF, .fnegs 17 28 15),
    (0xA5A7C134, .fabs 18 31 20),
    (0xA7A08839, .fadds 19 2 25),
    (0xA9A1485E, .faddd 20 5 30),
    (0xABA208A3, .fsubs 21 8 3),
    (0xADA2C8C8, .fsubd 22 11 8),
    (0xAFA3892D, .fmuls 23 14 13),
    (0xB1A44952, .fmuld 24 17 18),
    (0xB3A509B7, .fdivs 25 20 23),
    (0xB5A5C9DC, .fdivd 26 23 28),
    (0xB7A69881, .fitos 27 26 1),
    (0xB9A758A6, .fstod 28 29 6),
    (0xBBA018CB, .fdtos 29 0 11),
    (0xBDA0D910, .fitod 30 3 16),
    (0xBFA19A35, .fstoi 31 6 21),
    (0x93A25A5A, .fdtoi 9 9 26),
    (0x83AB0A3F, .fcmps 1 12 31),
    (0x85ABCA44, .fcmpd 2 15 4),
    (0x87AC8AA9, .fcmpes 3 18 9),
    (0x89AD4ACE, .fcmped 4 21 14),
    (0x8BA63473, .fpop1 5 24 0x1A3 19),
    (0x8DAEF478, .fpop2 6 27 0x1A3 24)] = true := by decide

theorem test_decode_float_branches : decodesTo [
    (0x31A907CD, .fba true 0x2907CD),
    (0x01A91A01, .fbn false 0x291A01),
    (0x2FA92C35, .fbu true 0x292C35),
    (0x0DA93E69, .fbg false 0x293E69),
    (0x2BA9509D, .fbug true 0x29509D),
    (0x09A962D1, .fbl false 0x2962D1),
    (0x27A97505, .fbul true 0x297505),
    (0x05A98739, .fblg false 0x298739),
    (0x23A9996D, .fbne true 0x29996D),
    (0x13A9ABA1, .fbe false 0x29ABA1),
    (0x35A9BDD5, .fbue true 0x29BDD5),
    (0x17A9D009, .fbge false 0x29D009),
    (0x39A9E23D, .fbuge true 0x29E23D),
    (0x1BA9F471, .fble false 0x29F471),
    (0x3DAA06A5, .fbule true 0x2A06A5),
    (0x1FAA18D9, .fbo false 0x2A18D9)] = true := by decide

theorem test_decode_unimp_iflush : decodesTo [
    (0x002A2B0D, .unimp 0x2A2B0D),
    (0x81DC64D0, .iflush 17 (.imm 0x4D0))] = true := by decide

/-- 95_test_vectors 2.1: the same instruction from a word with bits set that 30_encoding R129 ignores. -/
theorem test_decode_ignored_bits :
    decodesTo [(0x90005FE2, .add 8 1 (.reg 2)), (0xB1D02003, .ta 0 (.imm 3)), (0x914FFFFF, .rdpsr 8),
      (0x81886020, .wrpsr 1 (.imm 0x20)), (0xBFCCA004, .rett 18 (.imm 4)), (0x81A80A21, .fcmps 0 0 1)] = true := by decide

/-- 95_test_vectors 2.1: the words that are no instruction. -/
theorem test_decode_refuses :
    decode 0x00400000 = .unassigned ∧ decode 0x80480000 = .unassigned ∧ decode 0xC0400000 = .unassigned ∧
      decode 0xC0780000 = .swapSlot ∧ decode 0x81B00000 = .coprocessorSlot ∧ decode 0x01C00000 = .coprocessorSlot ∧
      decodeBytes [0x81, 0xB0] = .truncated := by decide

theorem test_decodeTableWord : decodeTableWord 32 0x90004002 = some (.add 8 1 (.reg 2)) ∧
    decodeTableWord 32 0x80480000 = none := by decide

/-! ### Steps

The vectors start as 95_test_vectors says: PC 1000, nPC 1004, S = 1, ET = 1, CWP = 0, TBA 00004. -/

/-- The start of a vector. -/
def start : State :=
  { State.reset with pc := 0x1000, npc := 0x1004, tba := 4, psr := { State.reset.psr with et := true } }

/-- A register written through the current window. -/
def put (n : RegNum) (v : Word) (s : State) : State := writeWin s s.psr.cwp n v

/-- The flags of the bits n, z, v, c. -/
def iccOfBits (b : BitVec 4) : Icc := ⟨b.getLsbD 3, b.getLsbD 2, b.getLsbD 1, b.getLsbD 0⟩

/-- The flags set to n, z, v, c. -/
def withIcc (b : BitVec 4) (s : State) : State := { s with psr := { s.psr with icc := iccOfBits b } }

/-- The window set. -/
def withCwp (w : WindowNum) (s : State) : State := { s with psr := { s.psr with cwp := w } }

/-- The flags as bits n, z, v, c. -/
def iccBits (f : Icc) : BitVec 4 := BitVec.ofBool f.n ++ BitVec.ofBool f.z ++ BitVec.ofBool f.v ++ BitVec.ofBool f.c

/-- The step that runs a word, seen through `f`; nothing when it does not go on. -/
def after {α : Type} (word : Nat) (s : State) (f : State → α) : Option α :=
  match step (s.withFetchWord 32 word) with
  | .next t => some (f t)
  | _ => none

/-- r8 and icc after a word, from r1, r2 and icc. -/
def alu (word : Nat) (r1 r2 : Word) (icc : BitVec 4) : Option (Word × BitVec 4) :=
  after word (withIcc icc (put 2 r2 (put 1 r1 start))) fun t => (readReg t 8, iccBits t.psr.icc)

/-- Each row: the word, r1, r2, icc; r8 and icc after it. -/
def aluRows (rows : List (Nat × Word × Word × BitVec 4 × Word × BitVec 4)) : Bool :=
  rows.all fun (w, a, b, i, r, j) => alu w a b i == some (r, j)

theorem test_add_subtract : aluRows [
    (0x90804002, 0x7FFFFFFF, 0x00000001, 0b0000, 0x80000000, 0b1010),
    (0x90804002, 0x80000000, 0x80000000, 0b0000, 0x00000000, 0b0111),
    (0x90C04002, 0xFFFFFFFF, 0x00000000, 0b0001, 0x00000000, 0b0101),
    (0x90404002, 0x00000005, 0x00000006, 0b0001, 0x0000000C, 0b0001),
    (0x90A04002, 0x00000000, 0x00000001, 0b0000, 0xFFFFFFFF, 0b1001),
    (0x90A04002, 0x7FFFFFFF, 0xFFFFFFFF, 0b0000, 0x80000000, 0b1011),
    (0x90E04002, 0x00000000, 0x00000000, 0b0001, 0xFFFFFFFF, 0b1001),
    (0x90E04002, 0x80000000, 0x00000000, 0b0001, 0x7FFFFFFF, 0b0010),
    (0x90604002, 0x0000000A, 0x00000003, 0b0001, 0x00000006, 0b0001),
    (0x90004002, 0xFFFFFFFF, 0x00000001, 0b1010, 0x00000000, 0b1010),
    (0x90204002, 0x00000000, 0x00000001, 0b0101, 0xFFFFFFFF, 0b0101),
    (0x90A06FFF, 0x00000000, 0x00000000, 0b0000, 0xFFFFF001, 0b1001)] = true := by decide

theorem test_tagged : aluRows [
    (0x91004002, 0x00000005, 0x00000008, 0b1111, 0x0000000D, 0b0010),
    (0x91004002, 0x7FFFFFFC, 0x00000004, 0b1111, 0x80000000, 0b1010),
    (0x91084002, 0x80000000, 0x00000004, 0b1111, 0x7FFFFFFC, 0b0010),
    (0x91084002, 0x00000004, 0x00000008, 0b1111, 0xFFFFFFFC, 0b1001),
    (0x91104002, 0x00000004, 0x00000008, 0b1111, 0x0000000C, 0b0000),
    (0x91184002, 0x00000008, 0x00000004, 0b1111, 0x00000004, 0b0000)] = true := by decide

theorem test_logical : aluRows [
    (0x90084002, 0xF0F0A5A5, 0x0FF0FF00, 0b0011, 0x00F0A500, 0b0011),
    (0x90884002, 0xF0F0A5A5, 0x0FF0FF00, 0b0011, 0x00F0A500, 0b0000),
    (0x90284002, 0xF0F0A5A5, 0x0FF0FF00, 0b0011, 0xF00000A5, 0b0011),
    (0x90A84002, 0xF0F0A5A5, 0x0FF0FF00, 0b0011, 0xF00000A5, 0b1000),
    (0x90104002, 0xF0F0A5A5, 0x0FF0FF00, 0b0011, 0xFFF0FFA5, 0b0011),
    (0x90904002, 0xF0F0A5A5, 0x0FF0FF00, 0b0011, 0xFFF0FFA5, 0b1000),
    (0x90304002, 0xF0F0A5A5, 0x0FF0FF00, 0b0011, 0xF0FFA5FF, 0b0011),
    (0x90B04002, 0xF0F0A5A5, 0x0FF0FF00, 0b0011, 0xF0FFA5FF, 0b1000),
    (0x90184002, 0xF0F0A5A5, 0x0FF0FF00, 0b0011, 0xFF005AA5, 0b0011),
    (0x90984002, 0xF0F0A5A5, 0x0FF0FF00, 0b0011, 0xFF005AA5, 0b1000),
    (0x90384002, 0xF0F0A5A5, 0x0FF0FF00, 0b0011, 0x00FFA55A, 0b0011),
    (0x90B84002, 0xF0F0A5A5, 0x0FF0FF00, 0b0011, 0x00FFA55A, 0b0000)] = true := by decide

theorem test_shifts_sethi : aluRows [
    (0x91286001, 0x80000001, 0, 0b1111, 0x00000002, 0b1111),
    (0x91284002, 0x00000001, 0x21, 0b1111, 0x00000002, 0b1111),
    (0x91304002, 0xFFFFFFFF, 0xFFFFFFE4, 0b1111, 0x0FFFFFFF, 0b1111),
    (0x91386005, 0x80000000, 0, 0b1111, 0xFC000000, 0b1111),
    (0x9138601F, 0x7FFFFFFF, 0, 0b1111, 0x00000000, 0b1111),
    (0x11048D15, 0, 0, 0b1111, 0x12345400, 0b1111)] = true := by decide

/-- MULScc: r8, Y and icc after it. -/
def mul (r1 r2 y : Word) (icc : BitVec 4) : Option (Word × Word × BitVec 4) :=
  after 0x91204002 { withIcc icc (put 2 r2 (put 1 r1 start)) with y := y } fun t =>
    (readReg t 8, t.y, iccBits t.psr.icc)

theorem test_mulscc_negative_partial_product :
    mul 0x80000001 5 0xFFFFFFFE 0b1000 = some (0xC0000000, 0xFFFFFFFF, 0b1000) := by decide
theorem test_mulscc_carry :
    mul 0xFFFFFFFF 0xFFFFFFFF 1 0b0010 = some (0xFFFFFFFE, 0x80000000, 0b1001) := by decide

/-- 2.8: SAVE wraps from window 0 to 6, and RESTORE from 6 to 0. -/
theorem test_save_restore_wrap :
    after 0x9DE3BFA0 { put 14 0x2000 start with wim := 1 } (fun t => (t.psr.cwp, readReg t 14, readReg t 30)) =
      some (6, 0x1FA0, 0x2000) ∧
    after 0x9DEBA001 { put 14 0x10 (withCwp 6 start) with wim := 2 } (fun t => (t.psr.cwp, readReg t 14)) =
      some (0, 0x11) := by decide

/-- 2.8: into an invalid window they trap, and the entry moves CWP down. -/
theorem test_save_restore_trap :
    after 0x9DE3BFA0 { put 14 0x2000 (withCwp 1 start) with wim := 1 } (fun t =>
      (t.pc, t.psr.cwp, readReg t 17, readReg t 18, readReg t 30)) = some (0x4050, 0, 0x1000, 0x1004, 0x2000) ∧
    after 0x9DEBA001 { put 14 0x10 (withCwp 6 start) with wim := 1 } (fun t => (t.pc, t.psr.cwp, readReg t 30)) =
      some (0x4060, 5, 0x10) := by decide

/-- 10_state R24: window 3's r8 is W[48], which is window 2's r24; window 6's r24 is W[0]. -/
theorem test_window_homes :
    home 3 8 = .windowed 48 ∧ home 2 24 = .windowed 48 ∧ home 2 16 = .windowed 40 ∧ home 6 24 = .windowed 0 ∧
      home 0 8 = .windowed 0 ∧ home 5 7 = .global 6 ∧ home 5 0 = .zero := by decide

/-- The memory of 2.9, in the data spaces. -/
def data : Memory :=
  Memory.setBytes [] (placeOf State.reset 0x0B 0x2000) [0x80, 0x91, 0xA2, 0xB3, 0xC4, 0xD5, 0xE6, 0xF7]

/-- The start of the load vectors. -/
def loadStart : State := put 9 0x22222222 (put 8 0x11111111 (put 1 0x2000 { start with mem := data }))

theorem test_loads :
    [(0xD0006000, 0x8091A2B3), (0xD0086003, 0x000000B3), (0xD0486005, 0xFFFFFFD5), (0xD0106002, 0x0000A2B3),
      (0xD0506006, 0xFFFFE6F7)].all (fun (w, v) => after w loadStart (readReg · 8) == some v) = true := by decide

theorem test_ldd_and_wrapping_address :
    after 0xD0186000 loadStart (fun t => (readReg t 8, readReg t 9)) = some (0x8091A2B3, 0xC4D5E6F7) ∧
    after 0xC0186000 loadStart (fun t => (readReg t 0, readReg t 1)) = some (0, 0xC4D5E6F7) ∧
    after 0xD0004002 (put 2 0x2008 (put 1 0xFFFFFFFC loadStart)) (readReg · 8) = some 0xC4D5E6F7 := by decide

/-- Misaligned, MEXC and odd rd (20_memory R91, R107; 40_data_transfer R166). -/
theorem test_load_traps :
    after 0xD0006002 loadStart (fun t => (t.pc, t.tt)) = some (0x4070, 7) ∧
    after 0xD0186004 loadStart (fun t => (t.pc, t.tt)) = some (0x4070, 7) ∧
    after 0xD0006000 { loadStart with bus := [.memory, .mexc] } (fun t => (t.pc, t.tt)) = some (0x4090, 9) := by decide

theorem test_odd_pair_refused : exec (.ldd 9 1 (.imm 0)) loadStart = .refused .oddDoublewordRegister := rfl

/-- The start of the store vectors. -/
def storeStart : State := put 9 0xCAFEF00D (put 8 0xDEADBEEF (put 1 0x2000 { start with mem := data }))

/-- The two words of `data`. -/
def words (t : State) : Word × Word :=
  (t.mem.word (placeOf t 0x0B 0x2000), t.mem.word (placeOf t 0x0B 0x2004))

theorem test_stores :
    [(0xD0206000, 0xDEADBEEF, 0xC4D5E6F7), (0xD0286003, 0x8091A2EF, 0xC4D5E6F7), (0xD0306004, 0x8091A2B3, 0xBEEFE6F7),
      (0xD0386000, 0xDEADBEEF, 0xCAFEF00D), (0xC0386000, 0x00000000, 0x00002000),
      (0xD0206001, 0x8091A2B3, 0xC4D5E6F7)].all (fun (w, v) => after w storeStart words == some v) = true := by decide

theorem test_ldstub :
    after 0xD0686001 storeStart (fun t => (readReg t 8, words t)) = some (0x91, 0x80FFA2B3, 0xC4D5E6F7) := by decide

/-- 2.10: LDA in supervisor mode, in user mode, and with i = 1. -/
theorem test_lda :
    after 0xD0804162 (put 2 4 loadStart) (readReg · 8) = some 0xC4D5E6F7 ∧
    after 0xD0804162 { loadStart with psr := { loadStart.psr with s := false } } (fun t => (t.tt, t.psr.s, t.psr.ps)) =
      some (3, true, false) ∧
    after 0xD0806004 { loadStart with psr := { loadStart.psr with s := false } } (fun t => t.tt) = some 2 := by decide

/-- PC and nPC after a word at 100 with the given flags. -/
def branchRows (rows : List (Nat × BitVec 4 × Word × Word)) : Bool :=
  rows.all fun (w, i, pc, npc) =>
    after w (withIcc i { start with pc := 0x100, npc := 0x104 }) (fun t => (t.pc, t.npc)) == some (pc, npc)

theorem test_bicc : branchRows [
    (0x12800004, 0b0000, 0x104, 0x110), (0x12800004, 0b0100, 0x104, 0x108), (0x32800004, 0b0100, 0x108, 0x10C),
    (0x10800004, 0, 0x104, 0x110), (0x30800004, 0, 0x110, 0x114), (0x00800004, 0xF, 0x104, 0x108),
    (0x20800004, 0xF, 0x108, 0x10C), (0x06800004, 0b1010, 0x104, 0x108), (0x18800004, 0b0001, 0x104, 0x108),
    (0x08800004, 0b0100, 0x104, 0x110), (0x14800004, 0b0010, 0x104, 0x108), (0x2E800004, 0b0010, 0x104, 0x110),
    (0x10BFFFFE, 0, 0x104, 0x0F8), (0x10A00000, 0, 0x104, 0xFF800100)] = true := by decide

theorem test_call_jmpl :
    after 0x7FFFFFFE start (fun t => (readReg t 15, t.pc, t.npc)) = some (0x1000, 0x1004, 0x0FF8) ∧
    after 0x9FC06002 (put 1 0x3002 start) (fun t => (readReg t 15, t.pc, t.npc)) = some (0x1000, 0x1004, 0x3004) ∧
    after 0x83C06008 (put 1 0x3000 start) (fun t => (readReg t 1, t.npc)) = some (0x1000, 0x3008) ∧
    after 0x9FC06000 (put 1 0x3001 start) (fun t => t.pc) = some 0x4070 := by decide

/-- The start of 2.13. -/
def user : State := { start with psr := { start.psr with s := false, ps := true, cwp := 3 } }

theorem test_ticc :
    after 0x91D06003 user (fun t => (t.tt, t.pc, t.npc, readReg t 17)) = some (0x83, 0x4830, 0x4834, 0x1000) ∧
    after 0x91D06003 user (fun t => t.psr) = some { user.psr with cwp := 2, s := true, ps := false, et := false } ∧
    after 0x91D07FFF (put 1 0x1234 user) (fun t => t.pc) = some 0x4B30 ∧
    after 0x93D06003 (withIcc 0b0100 user) (fun t => (t.pc, t.npc)) = some (0x1004, 0x1008) ∧
    after 0x91D06003 { user with psr := { user.psr with et := false } } (fun t => (t.mode, t.pc, t.tt)) =
      some (.error, 0x1000, 0) := by decide

/-- The start of 2.14: in the handler, after the JMPL. -/
def handler : State :=
  put 18 0x1004 { start with
    pc := 0x4834, npc := 0x1000, tt := 0x83, wim := 1, afterJmpl := true
    psr := { start.psr with et := false, cwp := 2 } }

theorem test_rett :
    after 0x81CCA000 handler (fun t => (t.pc, t.npc, t.psr.cwp, t.psr.s, t.psr.et)) =
      some (0x1000, 0x1004, 3, false, true) ∧
    after 0x81CCA000 { handler with psr := { handler.psr with et := true } } (fun t => (t.tt, t.pc, t.psr.cwp)) =
      some (2, 0x4020, 1) := by decide

/-- 42_control_transfer R311: the same RETT after another instruction than a JMPL; JMPL leaves the mark, at its nPC.
-/
theorem test_rett_needs_jmpl :
    exec (.rett 18 (.imm 0)) { handler with afterJmpl := false } = .refused .returnWithoutJmpl ∧
    after 0x81C44000 (put 17 0x1000 start) (fun t => (t.afterJmpl, t.npc)) = some (true, 0x1000) :=
  ⟨rfl, by decide⟩

/-- 2.14: the failing RETTs, with the code of the first failed check. -/
theorem test_rett_fails :
    after 0x81CCA000 (put 18 0x1006 { handler with psr := { handler.psr with s := false }, wim := 8 }) (fun t =>
      (t.mode, t.tt, t.pc)) = some (.error, 3, 0x4834) ∧
    after 0x81CCA000 (put 18 0x1006 { handler with wim := 8 }) (fun t => t.tt) = some 6 ∧
    after 0x81CCA000 (put 18 0x1006 handler) (fun t => t.tt) = some 7 := by decide

/-- 2.15; RDPSR's bits 19:14 are masked away, for they read as any value. -/
theorem test_state_register_reads :
    after 0x91580000 { start with tba := 0x12345, tt := 0x85 } (readReg · 8) = some 0x12345850 ∧
    after 0x91500000 { start with wim := 0x41 } (readReg · 8) = some 0x41 ∧
    after 0x91400000 { user with y := 0xDEADBEEF } (readReg · 8) = some 0xDEADBEEF ∧
    psrWord { icc := iccOfBits 0b0100, reserved := 0, ec := false, ef := true, pil := 5, s := true, ps := false,
              et := true, cwp := 3 } = 0x004015A3 ∧
    after 0x91480000 user (fun t => (t.pc, t.psr.cwp)) = some (0x4030, 2) := by decide

theorem test_state_register_writes :
    after 0x81886020 (put 1 0x004010C3 start) (fun t => psrWord t.psr) = some 0x004010E3 ∧
    after 0x81884002 (put 1 0xFF0000E7 (withCwp 3 start)) (fun t => (t.pc, psrWord t.psr)) = some (0x4020, 0x000000C2) ∧
    after 0x81884002 (put 1 0xFFF000E5 start) (fun t => psrWord t.psr) = some 0x00F000E5 ∧
    after 0x81903FFF start (fun t => wimWord t) = some 0x7F ∧
    after 0x81986000 (put 1 0x4ABC { start with tt := 0x11 }) (fun t => tbrWord t) = some 0x4110 ∧
    after 0x818060FF (put 1 0xF0F start) (fun t => t.y) = some 0xFF0 := by decide

/-- The state after a word, placed where each next step fetches. -/
def run (words : List Nat) (s : State) : Host.Outcome State Fault Refusal :=
  match words with
  | [] => .next s
  | w :: ws => match step (s.withFetchWord 32 w) with
    | .next t => run ws t
    | other => other

/-- The refusal a run ends in. -/
def refusalOf (words : List Nat) (s : State) : Option Refusal :=
  match run words s with
  | .refused r => some r
  | _ => none

/-- 2.15, the delayed writes: RDY as the first, second and third instruction after a WRY is refused, as the fourth it
reads Y. -/
theorem test_rdy_after_wry :
    refusalOf [0x81806000, 0x91400000] start = some .yUnsettled ∧
    refusalOf [0x81806000, 0x01000000, 0x01000000, 0x91400000] start = some .yUnsettled ∧
    (match run [0x81806000, 0x01000000, 0x01000000, 0x01000000, 0x91400000] (put 1 7 start) with
      | .next t => readReg t 8 == 7
      | _ => false) = true := ⟨rfl, rfl, by decide⟩

/-- 43_state_registers R341, R343, R346: SAVE and RDWIM after a WRWIM, RDTBR after a WRTBR, RDPSR and ADDX after a
WRPSR that changed icc. -/
theorem test_windows_refuse :
    refusalOf [0x81902000, 0x9DE3BFA0] start = some .wimUnsettled ∧
    refusalOf [0x81902000, 0x91500000] start = some .wimUnsettled ∧
    refusalOf [0x81982000, 0x91580000] start = some .tbrUnsettled ∧
    refusalOf [0x81886000, 0x91480000] (put 1 0xF000A0 start) = some .psrUnsettled ∧
    refusalOf [0x81886000, 0x90400001] (put 1 0xF000A0 start) = some .psrUnsettled := ⟨rfl, rfl, rfl, rfl, rfl⟩

/-- 2.15: a WRPSR that changes only ET, and three NOPs: no refusal. A TA within the window of a WRTBR goes through the
old or the new TBA. -/
theorem test_et_only_write_and_old_or_new_tba :
    (match run [0x81886000, 0x01000000, 0x01000000, 0x01000000] (put 1 0xA0 { start with psr := State.reset.psr }) with
      | .next t => t.psr.et == true && t.psrDelay.left == 0
      | _ => false) = true ∧
    (match run [0x81986000, 0x91D02000] (put 1 0x8000 start) with
      | .next t => t.tba == 8 && tbrWord t == 0x8800 && t.tbrDelay.left == 0
      | _ => false) = true := by decide

/-- 43_state_registers R341, R342: after a WRPSR that changed S the next fetch is refused, and so is an interrupt
accepted after one that changed CWP. -/
theorem test_fetch_and_interrupt_refused :
    refusalOf [0x81886000, 0x01000000] (put 1 0x20 start) = some .psrUnsettled ∧
    step { start with
      psrDelay := ⟨3, { PsrFields.none with cwp := true }, true, 0⟩
      inputs := [{ Input.quiet with irl := 15 }] } = .refused .psrUnsettled := ⟨rfl, rfl⟩

/-- 2.17, with PIL 5. -/
theorem test_interrupt_levels :
    let s (pil : BitVec 4) : State := { start with psr := { start.psr with pil := pil } }
    acceptsInterrupt (s 4) 5 = true ∧ acceptsInterrupt (s 5) 5 = false ∧ acceptsInterrupt (s 15) 14 = false ∧
      acceptsInterrupt (s 15) 15 = true ∧ acceptsInterrupt (s 0) 0 = false ∧
      acceptsInterrupt { s 15 with psr := { (s 15).psr with et := false } } 15 = false := by decide

/-- 2.18: RESET asserted and released. -/
theorem test_reset_keeps_the_rest :
    let p : Psr := ⟨iccOfBits 0b1001, 0, false, true, 3, false, true, true, 5⟩
    (match step { start with psr := p, mode := .error, inputs := [{ Input.quiet with reset := true }] } with
    | .next t => (match step t with
      | .next u => psrWord u.psr == 0x009013C5 && u.pc == 0 && u.npc == 4 && u.mode == .execute && u.tba == 4
      | _ => false)
    | _ => false) = true := by decide

/-- 2.19: with EF = 0 every floating point instruction traps, whatever r1 holds; with ET = 0, error mode. -/
theorem test_fp_disabled :
    [0x85A00821, 0x81A80A21, 0xC5006008, 0xC5386008, 0xC1084000, 0xC1304000, 0x03800004].all
      (fun w => after w { put 1 1 start with fpuPresent := true } (fun t => t.pc) == some 0x4040 &&
        after w State.reset (fun t => t.mode) == some .error) = true := by decide

/-- An FPU that is there and enabled. -/
def fpuStart : State :=
  put 1 0x2000 { start with mem := data, fpuPresent := true, psr := { start.psr with ef := true } }

/-- 44_fp_and_other R363, R366, R368: FADDS is dispatched, LDF sends its datum, FBNE branches on FCC = 1. -/
theorem test_fpu_port :
    after 0x85A00821 fpuStart (fun t => (t.fpuOut, t.pc)) = some ([.op 0x85A00821 0x1000], 0x1004) ∧
    after 0xC5006004 fpuStart (fun t => t.fpuOut) =
      some [.loadStore 0xC5006004 0x1000, .data 0xC4D5E6F7] ∧
    after 0x03800004 { fpuStart with fcc := 1 } (fun t => t.npc) = some 0x1010 ∧
    after 0x85A00821 { fpuStart with fexc := true } (fun t => (t.tt, t.fexc, t.fpuOut)) =
      some (8, false, [.fxack]) := by decide

/-- 50_bus_signals R395, R396; 40_data_transfer R175: what an LDD, an STB and an LDSTUB show the platform after the
fetch; the LDD asserts LOCK during its second read. -/
theorem test_bus_cycles :
    after 0xD0186000 loadStart (fun t => t.busOut) = some [⟨.fetch, 9, 0x1000, .word, false, false⟩,
      ⟨.read, 0xB, 0x2000, .double, false, false⟩, ⟨.read, 0xB, 0x2004, .double, true, false⟩] ∧
    after 0xD0286003 storeStart (fun t => t.busOut.tail) =
      some [⟨.write 0xEF, 0xB, 0x2003, .byte, true, false⟩] ∧
    after 0xD0686001 storeStart (fun t => t.busOut.tail) =
      some [⟨.read, 0xB, 0x2001, .byte, true, true⟩, ⟨.write 0xFF, 0xB, 0x2001, .byte, true, true⟩] := by decide

/-- 50_bus_signals R398; 70_reset_and_hazards R481: a fetch never answered, and an LDD whose second access RESET cuts.
-/
theorem test_held_and_cut :
    step { start with bus := [.held] } = .fault .heldForever ∧
    after 0xD0186000 { loadStart with bus := [.memory, .memory, .reset] } (fun t => (t.mode, readReg t 8, t.pc)) =
      some (.reset, 0x11111111, 0x1000) := ⟨rfl, by decide⟩

/-- Log 40: FEXC is the input's while RESET is held. -/
theorem test_fexc_across_reset :
    (match step { fpuStart with fexc := true, mode := .reset } with
    | .next t => t.fexc == false && t.mode == .execute
    | _ => false) = true := by decide

/-- 2.20. -/
theorem test_iflush_unimp :
    after 0x81D86008 { put 1 1 start with tc := true } (fun t => (t.pc, t.npc)) = some (0x1004, 0x1008) ∧
    after 0x81D86008 start (fun t => t.pc) = some 0x4020 ∧ after 0 start (fun t => t.pc) = some 0x4020 := by decide

/-! ### Witnesses: a state and operands that meet the hypotheses of each statement, at boundary values -/

/-- A NOP in memory at PC. -/
def nopStart : State := start.withFetchWord 32 0x01000000

/-- Every window open. -/
def openStart : State :=
  { start with
    psrDelay := ⟨3, { PsrFields.none with icc := true }, true, 0⟩, wimDelay := 1, tbrDelay := ⟨2, 1⟩, yDelay := 3 }

theorem witness_StepKeepsInvariant : Inv nopStart ∧ ∃ t, step nopStart = .next t :=
  ⟨⟨by decide, by decide, by decide, by decide⟩, _, rfl⟩

theorem witness_StepRunsDecodedInstruction :
    let s : State := State.withFetchWord { start with pc := 0xFFFFFFFC } 32 0x01000000
    s.mode = .execute ∧ (nextInput s).reset = false ∧ acceptsInterrupt (receiveInput s) (nextInput s).irl = false ∧
      s.psrDelay.live.s = false ∧ nextAnswer s = .memory ∧ staleWords s.stale (fetchPlace s) = [] ∧
      (let m := (receiveInput s).mem
       let p := fetchPlace s
       decodeBytes [m.get p, m.get (p + 1), m.get (p + 2), m.get (p + 3)] = .instr (.sethi 0 0)) := by decide

theorem witness_StepRunsDecodedInstruction_device :
    let s : State := { start with bus := [.device 0x01000000] }
    s.mode = .execute ∧ (nextInput s).reset = false ∧ acceptsInterrupt (receiveInput s) (nextInput s).irl = false ∧
      s.psrDelay.live.s = false ∧ nextAnswer s = .device 0x01000000 ∧ decode 0x01000000 = .instr (.sethi 0 0) := by decide

theorem witness_StepTakesInterruptOrFetchTrap :
    let s : State := { start with inputs := [{ Input.quiet with irl := 1 }] }
    let u : State := { start with bus := [.mexc], inputs := [{ Input.quiet with irl := 0 }] }
    (s.mode = .execute ∧ (nextInput s).reset = false ∧
      acceptsInterrupt (receiveInput s) (nextInput s).irl = true ∧ s.psrDelay.live.s = false ∧
      s.psrDelay.live.cwp = false) ∧
    (u.mode = .execute ∧ (nextInput u).reset = false ∧
      acceptsInterrupt (receiveInput u) (nextInput u).irl = false ∧ u.psrDelay.live.s = false) ∧
    nextAnswer u = .mexc ∧ nextAnswer { u with bus := [.reset] } = .reset ∧
    nextAnswer { u with bus := [.held] } = .held := by decide

/-- The refused clauses: S or CWP unsettled at either end of the window. -/
theorem witness_StepTakesInterruptOrFetchTrap_refused :
    [1, 3].all (fun k =>
      [{ PsrFields.none with s := true }, { PsrFields.none with cwp := true }].all fun f =>
        let s : State := { start with psrDelay := ⟨k, f, true, 0⟩, inputs := [{ Input.quiet with irl := 15 }] }
        acceptsInterrupt (receiveInput s) (nextInput s).irl && (s.psrDelay.live.s || s.psrDelay.live.cwp)) &&
      (let u : State := { start with psrDelay := ⟨1, { PsrFields.none with s := true }, true, 0⟩ }
       u.psrDelay.live.s && !acceptsInterrupt (receiveInput u) (nextInput u).irl) = true := by decide

/-- Inside a window ET and PIL have two values each. -/
theorem witness_InterruptAcceptance :
    let s : State := { start with psrDelay := ⟨1, { PsrFields.none with et := true, pil := true }, false, 15⟩ }
    let u : State := { start with psrDelay := ⟨3, { PsrFields.none with icc := true }, true, 0⟩ }
    start.psrDelay.left = 0 ∧ (u.psrDelay.changed.et = false ∧ u.psrDelay.changed.pil = false) ∧
      interruptTestOpen s = true ∧ s.psrDelay.oldEt ≠ s.psr.et ∧ s.psrDelay.oldPil ≠ s.psr.pil := by decide

theorem witness_ResetAndErrorMode :
    (nextInput { start with inputs := [{ Input.quiet with reset := true }] }).reset = true ∧
    ((nextInput { start with mode := .reset }).reset = false ∧ ({ start with mode := .reset } : State).mode = .reset) ∧
    ((nextInput { start with mode := .error }).reset = false ∧ ({ start with mode := .error } : State).mode = .error) := by
  decide

theorem witness_DecodeEncodeAgree :
    (Instr.fpop1 31 31 0x1FF 31).wellFormed = true ∧ (Instr.fpop2 0 0 0x000 0).wellFormed = true ∧
      (Instr.ldda 31 0 (.imm 0x1FFF)).wellFormed = true := by decide

theorem witness_DecodedIsWellFormed : decode 0x85A00821 = .instr (.fadds 2 0 1) := by decide

theorem witness_MemoryEqualWhenReadsEqual :
    let m : Memory := [(0, 1), (7, 0xFF)]
    m.wf = true ∧ ∀ p, m.get p = m.get p := ⟨by decide, fun _ => rfl⟩

theorem witness_MemoryWordReadBack : Memory.wf [(3, 7), (4, 1)] = true := by decide

/-- Each clause of the overlap: a global, one window's register, ins and outs from both sides. -/
theorem witness_WindowOverlap :
    home 6 0 = home 1 0 ∧ home 6 7 = home 1 7 ∧ home 6 8 = home 6 8 ∧ home 6 31 = home 0 15 ∧ home 0 8 = home 6 24 := by
  decide

theorem witness_SettledSeesRegisters :
    (settled start ∧ start.psr.s = true) ∧ (settled user ∧ user.psr.s = false) := by decide

/-- The window of a WRPSR that changed these fields, with `k` instructions left. -/
def inPsrWindow (k : Nat) (fields : PsrFields) (s : State) : State := { s with psrDelay := ⟨k, fields, true, 0⟩ }

/-- Each field at each end of its window: a user of it is refused, a NOP is not, nor the user once the window is
closed. -/
theorem witness_UnsettledUseRefused_psr :
    [({ PsrFields.none with icc := true }, Instr.bn false 0), ({ PsrFields.none with reserved := true }, .rdpsr 0),
      ({ PsrFields.none with ec := true }, .rdpsr 0), ({ PsrFields.none with ef := true }, .fbo false 0),
      ({ PsrFields.none with pil := true }, .rdpsr 0), ({ PsrFields.none with s := true }, .ld 0 0 (.imm 0)),
      ({ PsrFields.none with ps := true }, .rett 0 (.imm 0)), ({ PsrFields.none with et := true }, .rett 0 (.imm 0)),
      ({ PsrFields.none with cwp := true }, .add 8 7 (.reg 7)),
      ({ PsrFields.none with cwp := true }, .or 7 7 (.reg 31)),
      ({ PsrFields.none with cwp := true }, .call 0), ({ PsrFields.none with cwp := true }, .save 0 0 (.imm 0))].all
        (fun (f, i) =>
          unsettled i (inPsrWindow 3 f start) == some .psrUnsettled &&
          unsettled i (inPsrWindow 1 f start) == some .psrUnsettled && unsettled i (inPsrWindow 0 f start) == none &&
          unsettled (.sethi 0 0) (inPsrWindow 3 f start) == none) &&
      unsettled (.add 7 7 (.reg 7)) (inPsrWindow 3 { PsrFields.none with cwp := true } start) == none := by decide

/-- The other three registers, at both ends of the window. -/
theorem witness_UnsettledUseRefused :
    [1, 3].all (fun k =>
      [Instr.save 0 0 (.imm 0), .restore 0 0 (.imm 0), .rett 0 (.imm 0), .rdwim 0].all (fun i =>
        unsettled i { start with wimDelay := k } == some .wimUnsettled) &&
      [Instr.mulscc 0 0 (.imm 0), .rdy 0].all (fun i =>
        unsettled i { start with yDelay := k } == some .yUnsettled) &&
      unsettled (.rdtbr 0) { start with tbrDelay := ⟨k, 0⟩ } == some .tbrUnsettled) = true := by decide

theorem witness_UnsettledUseRefused_same_value :
    let s : State := put 1 0xFF0000A0 start
    ready (.wrpsr 1 (.reg 0)) s ∧ s.psrDelay.left = 0 ∧ supervisor s ∧
      (readReg s 1 ^^^ opValue s (.reg 0)).extractLsb' 0 24 = (psrWord s.psr).extractLsb' 0 24 := by decide

/-- No window is open in the states of the witnesses, so every instruction is ready in them; and what uses no
unsettled register is ready in an open window. -/
theorem witness_ready :
    (settled start ∧ settled user ∧ settled handler ∧ settled loadStart ∧ settled storeStart ∧ settled fpuStart) ∧
    (∀ i, ready i start) ∧ ready (.add 8 9 (.reg 10)) openStart ∧ ready (.ldd 8 9 (.reg 10)) openStart ∧
      ready (.wrpsr 1 (.reg 2)) openStart :=
  ⟨by decide, fun i => ready_settled i (s := start) (by decide), by decide, by decide, by decide⟩

/-- A trap entered, one that leads to error mode, and one refused. -/
theorem witness_TrapEntryContents :
    (trapsEnabled start ∧ ∃ t, raise .tagOverflow start = .next t) ∧
    raise .tagOverflow handler = .next (enterError handler) ∧
    raise .tagOverflow { start with psrDelay := ⟨1, { PsrFields.none with et := true }, false, 0⟩ } =
      .refused .psrUnsettled := ⟨⟨rfl, _, rfl⟩, rfl, rfl⟩

/-- The tagged forms at the edges: tag 1, the largest and the smallest sums and differences. -/
theorem witness_TaggedTrapForms :
    let addOver (a b : Word) : Prop :=
      (a.toNat % 4 ≠ 0 ∨ b.toNat % 4 ≠ 0) ∨ a.toInt + b.toInt < -2 ^ 31 ∨ 2 ^ 31 ≤ a.toInt + b.toInt
    let subOver (a b : Word) : Prop :=
      (a.toNat % 4 ≠ 0 ∨ b.toNat % 4 ≠ 0) ∨ a.toInt - b.toInt < -2 ^ 31 ∨ 2 ^ 31 ≤ a.toInt - b.toInt
    ¬ addOver 0x7FFFFFF8 4 ∧ addOver 0x7FFFFFFC 4 ∧ addOver 1 0 ∧ ¬ subOver 0x80000004 4 ∧ subOver 0x80000000 4 ∧
      subOver 0 3 := by decide

theorem witness_SaveRestoreMove :
    let s : State := { start with wim := 0b0111101 }
    ready (.save 31 31 (.reg 31)) s ∧ s.wim.getLsbD (curWindow s - 1 : WindowNum).val = false ∧
      ready (.restore 31 31 (.reg 31)) s ∧ s.wim.getLsbD (curWindow s + 1 : WindowNum).val = false := by decide

theorem witness_InvalidWindowTraps :
    let s : State := { start with wim := 0b1000010 }
    let u : State := { s with psr := { s.psr with et := false } }
    (ready (.save 31 31 (.reg 31)) s ∧ s.psrDelay.left = 0 ∧ s.wim.getLsbD (curWindow s - 1 : WindowNum).val = true ∧
      s.wim.getLsbD (curWindow s + 1 : WindowNum).val = true ∧ trapsEnabled s) ∧
    (ready (.rett 31 (.reg 31)) u ∧ u.wim.getLsbD (curWindow u + 1 : WindowNum).val = true ∧ u.psr.et = false ∧
      supervisor u) := by decide

/-- Operands of an access to the last doubleword: r1 + r2 = FFFFFFF8. -/
def topStart : State := put 2 8 (put 1 0xFFFFFFF0 { start with mem := data })

theorem witness_memory_accesses :
    settled topStart ∧ memoryAnswers topStart 1 ∧ memoryAnswers topStart 2 ∧ supervisor topStart ∧
      topStart.mem.wf = true ∧
      (readReg topStart 1 + opValue topStart (.reg 2)).toNat % 8 = 0 := by
  simp only [memoryAnswers]; decide

/-- LoadResults, StoreResults: every width, at the last aligned address. -/
theorem witness_LoadResults_StoreResults :
    memoryAnswers topStart 1 ∧ supervisor topStart ∧ topStart.mem.wf = true ∧
      (readReg topStart 1 + opValue topStart (.imm 0xC)).toNat % 4 = 0 ∧
      (readReg topStart 1 + opValue topStart (.imm 0xE)).toNat % 2 = 0 ∧
      (readReg topStart 1 + readReg topStart 2).toNat % 4 = 0 := by
  simp only [memoryAnswers]; decide

/-- DoubleLoadResults, DoubleStoreResults: rd = 0 and rd = 30, the last doubleword. -/
theorem witness_DoubleLoadResults_DoubleStoreResults :
    memoryAnswers topStart 2 ∧ (0 : RegNum).toNat % 2 = 0 ∧ (30 : RegNum).toNat % 2 = 0 ∧ supervisor topStart ∧
      topStart.mem.wf = true ∧ (readReg topStart 1 + opValue topStart (.imm 8)).toNat % 8 = 0 ∧
      (readReg topStart 1 + readReg topStart 2).toNat % 8 = 0 := by
  simp only [memoryAnswers]; decide

theorem witness_AtomicLoadStore : memoryAnswers topStart 2 ∧ supervisor topStart ∧ topStart.mem.wf = true := by
  simp only [memoryAnswers]; decide

theorem witness_MisalignedAccess :
    let s : State := put 2 0xF topStart
    let n : Nat := (readReg s 1 + opValue s (.imm 0xF)).toNat
    let n' : Nat := (readReg s 1 + readReg s 2).toNat
    supervisor s ∧ (n % 2 ≠ 0 ∧ n % 4 ≠ 0 ∧ n % 8 ≠ 0) ∧ (n' % 2 ≠ 0 ∧ n' % 4 ≠ 0 ∧ n' % 8 ≠ 0) ∧
      (30 : RegNum).toNat % 2 = 0 := by decide

theorem witness_OddPairRefused : (31 : RegNum).toNat % 2 = 1 ∧ (1 : RegNum).toNat % 2 = 1 ∧ supervisor start := by
  decide

/-- Each answer on the first and on the second access; every width at the last address it reaches. -/
theorem witness_DataAccessExceptions :
    let s (bus : List BusAnswer) : State := { topStart with bus := bus }
    (30 : RegNum).toNat % 2 = 0 ∧ supervisor topStart ∧
    (readReg topStart 1 + opValue topStart (.imm 8)).toNat % 8 = 0 ∧
    (readReg topStart 1 + opValue topStart (.imm 0xC)).toNat % 4 = 0 ∧
    (readReg topStart 1 + opValue topStart (.imm 0xE)).toNat % 2 = 0 ∧
    (readReg topStart 1 + readReg topStart 2).toNat % 8 = 0 ∧
    [BusAnswer.mexc, .reset, .held].all (fun a => nextAnswer (s [a]) == a && nextAnswer (s [.memory, a]) == .memory &&
      (s [.memory, a]).bus[1]? == some a) = true := by decide

/-- A NOP completes. -/
theorem nop_completes : completed (.sethi 0 0) start (advance start) :=
  ⟨rfl, rfl, fun h => absurd (congrArg Psr.et h.2.1) (by decide)⟩

/-- A store at the last doubleword, and then a NOP, complete; the word was not remembered before. -/
theorem witness_StoredCodeOldOrNew :
    staleWords topStart.stale
      (wordPlace (placeOf topStart (dataAsi topStart) (readReg topStart 1 + opValue topStart (.reg 2)))) = [] ∧
    ∃ t u, completed (.std 8 1 (.reg 2)) topStart t ∧ completedAll [.sethi 0 0] t u ∧
      ∀ j ∈ [Instr.sethi 0 0], storing j = false :=
  ⟨by decide, _, _, ⟨rfl, rfl, fun h => absurd (congrArg Psr.et h.2.1) (by decide)⟩,
    ⟨_, ⟨rfl, rfl, fun h => absurd (congrArg Psr.et h.2.1) (by decide)⟩, rfl⟩, by decide⟩

/-- IntegerBranches, TrapOnCondition: every condition but always and never holds of some flags and fails of others. -/
theorem witness_conditions :
    [Cond.notEqual, .equal, .greater, .lessOrEqual, .greaterOrEqual, .less, .greaterUnsigned, .lessOrEqualUnsigned,
      .carryClear, .carrySet, .positive, .negative, .overflowClear, .overflowSet].all (fun c =>
        [0b0000, 0b1000, 0b0111].any (fun b => evalIcc c (iccOfBits b)) &&
        [0b0000, 0b1000, 0b0111].any (fun b => !evalIcc c (iccOfBits b))) = true := by decide

theorem witness_CallAndJump : (readReg topStart 1 + opValue topStart (.imm 0xC)).toNat % 4 = 0 := by decide

/-- The last clause of CallAndJump: a completed JMPL and a completed CALL. -/
theorem witness_CallAndJump_completed :
    (∃ t, completed (.jmpl 0 17 (.imm 0)) (put 17 0x1000 start) t) ∧ ∃ t, completed (.call 4) start t :=
  ⟨⟨_, rfl, rfl, fun h => absurd h.2.1 (by decide)⟩, ⟨_, rfl, rfl, fun h => absurd h.2.1 (by decide)⟩⟩

theorem witness_ReturnFromTrap :
    ready (.rett 18 (.imm 0)) handler ∧ handler.psr.et = false ∧ supervisor handler ∧
      handler.wim.getLsbD (curWindow handler + 1 : WindowNum).val = false ∧
      (readReg handler 18 + opValue handler (.imm 0)).toNat % 4 = 0 ∧ handler.afterJmpl = true := by decide

theorem witness_ReturnFromTrap_refused :
    let s : State := { handler with afterJmpl := false }
    ready (.rett 18 (.imm 0)) s ∧ s.psr.et = false ∧ supervisor s ∧
      s.wim.getLsbD (curWindow s + 1 : WindowNum).val = false ∧
      (readReg s 18 + opValue s (.imm 0)).toNat % 4 = 0 ∧ s.afterJmpl = false := by decide

theorem witness_ReturnFromTrapFails :
    let inU : State := { handler with psr := { handler.psr with s := false } }
    let inv : State := { handler with wim := 8 }
    start.psr.et = true ∧
    (ready (.rett 18 (.imm 0)) inU ∧ inU.psr.et = false ∧ inU.psr.s = false) ∧
    (ready (.rett 18 (.imm 0)) inv ∧ inv.psr.et = false ∧ supervisor inv ∧
      inv.wim.getLsbD (curWindow inv + 1 : WindowNum).val = true) ∧
    (ready (.rett 18 (.imm 3)) handler ∧ handler.psr.et = false ∧ supervisor handler ∧
      handler.wim.getLsbD (curWindow handler + 1 : WindowNum).val = false ∧
      (readReg handler 18 + opValue handler (.imm 3)).toNat % 4 ≠ 0) := by decide

theorem witness_TrapAndReturn :
    let s : State := { start with pc := 0xFFFFFFFC, npc := 0 }
    settled s ∧ s.psr.et = true ∧ s.wim.getLsbD s.psr.cwp.val = false ∧ s.pc.toNat % 4 = 0 ∧ s.npc.toNat % 4 = 0 := by
  decide

theorem witness_TrapAndReturn_completes :
    let s : State := { start with pc := 0xFFFFFFFC, npc := 0 }
    (match exec (.jmpl 0 17 (.reg 0)) (trapEntry 0xFF s) with
      | .next u => (match exec (.rett 18 (.reg 0)) u with
        | .next v => v.pc == 0xFFFFFFFC && v.npc == 0
        | _ => false)
      | _ => false) = true := by decide

theorem witness_StateRegisterReads :
    supervisor start ∧ [Instr.rdy 31, .rdwim 31, .rdtbr 31, .rdpsr 31].all (fun i => ready i start) := by decide

theorem witness_StateRegisterWrites :
    supervisor (put 1 6 start) ∧ (readReg (put 1 6 start) 1 ^^^ opValue start (.imm 0)).toNat % 32 < 7 ∧
      (put 1 6 start).psrDelay.left = 0 ∧ openStart.psrDelay.left ≠ 0 ∧ supervisor openStart := by decide

theorem witness_TrapBaseOldOrNew :
    let s : State := { start with tbrDelay := ⟨1, 8⟩ }
    (s.tbrDelay.left ≠ 0 ∧ trapsEnabled s) ∧ ∃ t, raise (.trapInstruction 127) s = .next t :=
  ⟨by decide, _, rfl⟩

theorem witness_TrapClosesWindows : (1 : RegNum) ≠ 0 ∧ (31 : RegNum) ≠ 0 := by decide

theorem witness_WindowsRunOut :
    openStart.mode = .execute ∧ ∃ t, exec (.sethi 0 0) openStart = .next t ∧ t.mode = .execute :=
  ⟨rfl, _, rfl, rfl⟩

theorem witness_IllegalForms :
    ({ start with tc := true } : State).tc = true ∧ start.tc = false ∧
      7 ≤ (readReg (put 1 7 start) 1 ^^^ opValue start (.imm 0)).toNat % 32 ∧ start.psr.et = true := by decide

theorem witness_PrivilegedForms :
    user.psr.s = false ∧ (readReg user 0 ^^^ opValue user (.imm 6)).toNat % 32 < 7 := by decide

theorem witness_UserModeConfined :
    (user.psrDelay.left = 0 ∧ user.psr.s = false) ∧ (∃ t, exec (.st 8 0 (.imm 4)) user = .next t) ∧
      ∃ t, exec (.ta 0 (.imm 0)) user = .next t := ⟨by decide, ⟨_, rfl⟩, _, rfl⟩

theorem witness_PsrWriters_SpecialRegisterWriters :
    (∃ t, exec (.save 14 14 (.imm 0)) start = .next t) ∧ (∃ t, exec (.wry 0 (.imm 1)) start = .next t) ∧
      ∃ t, exec (.rett 18 (.imm 0)) handler = .next t := ⟨⟨_, rfl⟩, ⟨_, rfl⟩, _, rfl⟩

theorem witness_FloatOperate : fpuReady fpuStart := by decide

/-- FloatBranches: each value of FCC. -/
theorem witness_FloatBranches :
    [0, 1, 2, 3].all (fun c => decide (fpuReady { fpuStart with fcc := c })) = true := by decide

theorem witness_FloatLoads_FloatStores :
    fpuReady fpuStart ∧ fpuStart.mem.wf = true ∧ memoryAnswers fpuStart 1 ∧ memoryAnswers fpuStart 2 ∧
      (readReg fpuStart 1 + fpOpValue fpuStart (.imm 4)).toNat % 4 = 0 ∧
      (readReg fpuStart 1 + fpOpValue fpuStart (.imm 8)).toNat % 8 = 0 := by
  simp only [memoryAnswers]; decide

theorem witness_FloatChecks :
    start.psr.ef = false ∧ (fpuStart.psr.ef = true ∧ fpuStart.fpuPresent = true) ∧
    (readReg fpuStart 1 + fpOpValue fpuStart (.imm 1)).toNat % 4 ≠ 0 ∧
    (readReg fpuStart 1 + fpOpValue fpuStart (.imm 4)).toNat % 8 ≠ 0 ∧
    (let s : State := { fpuStart with fexc := true }
     s.psr.ef = true ∧ s.fpuPresent = true ∧ s.fexc = true ∧ trapsEnabled s ∧
      (readReg s 1 + fpOpValue s (.imm 0)).toNat % 8 = 0) ∧
    (let s : State := { fpuStart with fexc := true, psr := { fpuStart.psr with et := false } }
     s.psr.ef = true ∧ s.fpuPresent = true ∧ s.fexc = true ∧ s.psr.et = false) ∧
    (let s : State := { fpuStart with bus := [.mexc] }
     s.fexc = false ∧ nextAnswer s = .mexc ∧ (readReg s 1 + fpOpValue s (.imm 4)).toNat % 4 = 0 ∧
      (readReg s 1 + fpOpValue s (.imm 8)).toNat % 8 = 0) ∧
    (let s : State := { fpuStart with bus := [.memory, .mexc] }
     s.fexc = false ∧ nextAnswer s = .memory ∧ s.bus[1]? = some .mexc) := by decide

end Sys2Proof.Tests
end

section
/-! PROOFS. Where register numbers lead, and the reset state (10_state R22, R24, R61): O1, O14, O15. -/

namespace Sys2Proof.Machine

/-! ### Where a register number leads -/

/-- Numbers 1 to 7 lead to the globals, in every window (10_state R24). -/
theorem home_global (w : WindowNum) {n : RegNum} (h0 : n.toNat ≠ 0) (h8 : n.toNat < 8) :
    home w n = .global (Fin.ofNat 7 (n.toNat - 1)) := by
  simp only [home, if_neg h0, if_pos h8]

/-- Numbers 8 to 31 lead to the windowed registers, the outs of window `w` first: one formula for outs, locals and
ins, since the ins of a window are the outs of the next (10_state R24). -/
theorem home_windowed (w : WindowNum) {n : RegNum} (h : 8 ≤ n.toNat) :
    home w n = .windowed (Fin.ofNat 112 (16 * w.val + (n.toNat - 8))) := by
  simp only [home, if_neg (show n.toNat ≠ 0 by omega), if_neg (show ¬ n.toNat < 8 by omega)]
  split_ifs <;> congr 2 <;> omega

theorem home_global_inj {w x : WindowNum} {m n : RegNum} (hm : m.toNat < 8) (hn : n.toNat < 8) :
    home w m = home x n ↔ m = n := by
  by_cases hm0 : m.toNat = 0
  · obtain rfl : m = 0 := BitVec.eq_of_toNat_eq hm0
    rw [home_eq_zero.2 rfl, eq_comm, home_eq_zero, eq_comm]
  by_cases hn0 : n.toNat = 0
  · obtain rfl : n = 0 := BitVec.eq_of_toNat_eq hn0
    rw [home_eq_zero.2 rfl, home_eq_zero]
  rw [home_global w hm0 hm, home_global x hn0 hn, RegHome.global.injEq, Fin.ext_iff, ← BitVec.toNat_inj]
  simp only [Fin.val_ofNat]
  omega

/-- A global is never a windowed register. -/
theorem home_global_ne_windowed {w x : WindowNum} {m n : RegNum} (hm : m.toNat < 8) (hn : 8 ≤ n.toNat) :
    home w m ≠ home x n := by
  rw [home_windowed x hn]
  by_cases hm0 : m.toNat = 0
  · rw [home_eq_zero.2 (BitVec.eq_of_toNat_eq hm0)]; exact RegHome.noConfusion
  · rw [home_global w hm0 hm]; exact RegHome.noConfusion

/-- Two windowed numbers name one register exactly when they are the same number of one window, or an in of one
window and the out of the next that stands 16 below it (10_state R24). -/
theorem home_windowed_inj {w x : WindowNum} {m n : RegNum} (hm : 8 ≤ m.toNat) (hn : 8 ≤ n.toNat) :
    home w m = home x n ↔ (m = n ∧ w = x) ∨ (24 ≤ m.toNat ∧ n.toNat + 16 = m.toNat ∧ x = w + 1) ∨
      (24 ≤ n.toNat ∧ m.toNat + 16 = n.toNat ∧ w = x + 1) := by
  have hw : w.val < 7 := w.isLt
  have hx : x.val < 7 := x.isLt
  have hm' := m.isLt
  have hn' := n.isLt
  rw [home_windowed w hm, home_windowed x hn, RegHome.windowed.injEq, ← BitVec.toNat_inj]
  simp only [Fin.ext_iff, Fin.val_ofNat, Fin.val_add, Fin.val_one, Config.nWindows]
  omega

/-- Settles O15: by whether each number is a global or a windowed one. -/
theorem windowOverlap : Obligations.WindowOverlap := by
  unfold Obligations.WindowOverlap
  intro w x m n
  rcases Nat.lt_or_ge m.toNat 8 with hm | hm <;> rcases Nat.lt_or_ge n.toNat 8 with hn | hn
  · simp [home_global_inj hm hn, hm, hm.not_ge, show ¬ 24 ≤ m.toNat by omega, show ¬ 24 ≤ n.toNat by omega]
  · refine iff_of_false (home_global_ne_windowed hm hn) ?_
    rintro (⟨_, rfl⟩ | ⟨_, _⟩ | ⟨_, _⟩ | ⟨_, _, _⟩) <;> omega
  · refine iff_of_false (home_global_ne_windowed hn hm).symm ?_
    rintro (⟨_, rfl⟩ | ⟨_, rfl, _⟩ | ⟨_, _, _⟩ | ⟨_, _⟩) <;> omega
  · simp [home_windowed_inj hm hn, hm, hm.not_gt]

/-- Settles O14: number 0 leads nowhere, where a read gives 0 and a write is discarded. -/
theorem registerZero : Obligations.RegisterZero := by
  unfold Obligations.RegisterZero
  intro s w v
  have h : home w 0 = .zero := home_eq_zero.2 rfl
  exact ⟨by rw [readWin, h, readHome_zero], by rw [writeWin, h, writeHome]⟩

/-! ### The bits of the state registers that do not exist, and reset -/

/-- impl and ver read as 0 in every PSR (10_state R36). -/
theorem psrWord_impl_ver (p : Psr) : psrWord p >>> 24 = 0 := by
  ext k hk
  have hlow : (psrWord p).getLsbD (24 + k) = false := by
    unfold psrWord
    iterate 12 rw [BitVec.getLsbD_append, if_neg (by omega)]
    exact BitVec.getLsbD_zero
  simpa using hlow

theorem wimWord_high (s : State) : wimWord s >>> 7 = 0 := by
  ext k hk
  simp [wimWord]

theorem tbrWord_low (s : State) : tbrWord s &&& 0xF = 0 := by
  refine BitVec.eq_of_toNat_eq ?_
  rw [BitVec.toNat_and, show (0xF : Word).toNat = 2 ^ 4 - 1 from rfl, Nat.and_two_pow_sub_one_eq_mod, tbrWord,
    BitVec.toNat_append]
  simp [Nat.shiftLeft_eq]

theorem reset_settled : settled State.reset := ⟨rfl, rfl, rfl, rfl⟩

/-- Settles O1: the listed values are those of the definition; the zero bits are zero in every state. -/
theorem resetGivenValues : Obligations.ResetGivenValues := by
  unfold Obligations.ResetGivenValues
  exact ⟨rfl, rfl, rfl, rfl, rfl, reset_settled, psrWord_impl_ver _, wimWord_high _, tbrWord_low _⟩

end Sys2Proof.Machine
end

section
/-! PROOFS. What an instruction that goes on can do to each part of the state, read off `Ends` part by part: the PSR,
WIM, TBA, Y, tt and memory (10_state R37, R46, R47, R49, R52; 60_exceptions R431, R452): O53, O54, O55. -/

namespace Sys2Proof.Machine

/-! ### Trap entry -/

@[simp] theorem readWin_trapEntry_17 (k : BitVec 8) (s : State) :
    readWin (trapEntry k s) (prevWindow s.psr.cwp) 17 = s.pc := by
  have h17 : home (prevWindow s.psr.cwp) 17 ≠ .zero := by rw [Ne, home_eq_zero]; decide
  have hne : home (prevWindow s.psr.cwp) 17 ≠ home (prevWindow s.psr.cwp) 18 := by
    rw [Ne, home_windowed_inj (by decide) (by decide)]; simp
  rw [readWin, readHome_trapEntry, readHome_writeWin_ne _ _ _ _ hne]
  exact readWin_writeWin_eq s _ _ h17

@[simp] theorem readWin_trapEntry_18 (k : BitVec 8) (s : State) :
    readWin (trapEntry k s) (prevWindow s.psr.cwp) 18 = s.npc := by
  have h18 : home (prevWindow s.psr.cwp) 18 ≠ .zero := by rw [Ne, home_eq_zero]; decide
  rw [readWin, readHome_trapEntry]
  exact readWin_writeWin_eq _ _ _ h18

theorem trapEntry_settled (k : BitVec 8) (s : State) : settled (trapEntry k s) := by
  simp [settled, PsrDelay.closed, TbrDelay.closed]

/-- The type number stands in bits 11:4 of the table entry's address (60_exceptions R431). -/
theorem tableEntry_type (b : BitVec 20) (k : BitVec 8) : (b ++ k ++ 0#4 : Word).extractLsb' 4 8 = k := by
  refine BitVec.eq_of_getLsbD_eq fun j hj => ?_
  rw [BitVec.getLsbD_extractLsb', BitVec.getLsbD_append, if_neg (by omega), BitVec.getLsbD_append, if_pos (by omega)]
  simp [hj]

/-- A touched state keeps all that trap entry looks at, so its trap is one taken from the state before. -/
theorem Touched.trapTaken {ok : Asi → Prop} {s u : State} (h : Touched ok s u) (he : s.psr.et = true) (k : BitVec 8) :
    trapTaken s (trapEntry k u) := by
  obtain ⟨hpc, hnpc, hpsr, -, htba, -, -, -, -, -, htbrDelay, -, -, hfree⟩ := h.kept
  have hbase : trapBase u = trapBase s := by simp only [trapBase, htbrDelay, hfree, htba]
  have h17 := readWin_trapEntry_17 k u
  have h18 := readWin_trapEntry_18 k u
  rw [hpsr, hpc] at h17
  rw [hpsr, hnpc] at h18
  refine ⟨he, ?_, h17, h18, ?_, ?_, trapEntry_settled k u⟩
  · rw [trapEntry_psr, hpsr]; rfl
  · rw [trapEntry_pc, trapEntry_tt, hbase]
  · rw [trapEntry_npc, trapEntry_pc]

/-- A trap taken leads to supervisor mode with traps off, at the entry of the table that tt names. -/
theorem trapTaken_entry {s t : State} (h : trapTaken s t) :
    s.psr.et = true ∧ t.psr = trapPsr s ∧ t.pc.extractLsb' 4 8 = t.tt ∧ t.npc = t.pc + 4 := by
  obtain ⟨he, hpsr, -, -, hpc, hnpc, -⟩ := h
  exact ⟨he, hpsr, by rw [hpc]; exact tableEntry_type _ _, hnpc⟩

/-! ### The special registers -/

theorem Touched.special {ok : Asi → Prop} {s t : State} (h : Touched ok s t) :
    t.wim = s.wim ∧ t.tba = s.tba ∧ t.y = s.y ∧ t.tt = s.tt := by
  obtain ⟨-, -, -, hwim, htba, htt, hy, -⟩ := h.kept
  exact ⟨hwim, htba, hy, htt⟩

theorem Touched.spaces {ok : Asi → Prop} {s t : State} (h : Touched ok s t) : t.spaces = s.spaces := by
  obtain ⟨-, -, -, -, -, -, -, -, -, -, -, -, hspaces, -⟩ := h.kept
  exact hspaces

section Effects
variable {i : Instr} {s t : State}

/-- What an instruction that goes on can have made of WIM, TBA, Y and tt: kept them all, or written one of them, by a
trap, a RETT that fails into error mode, WRWIM, WRTBR, or WRY and MULScc (10_state R47, R49, R52; 60_exceptions R431). -/
inductive SpecialEffect (i : Instr) (s t : State) : Prop where
  | kept : t.wim = s.wim → t.tba = s.tba → t.y = s.y → t.tt = s.tt → SpecialEffect i s t
  | trap : trapTaken s t → t.wim = s.wim → t.tba = s.tba → t.y = s.y → SpecialEffect i s t
  | failed (rs1 : RegNum) (o : RegImm) : i = .rett rs1 o → t.mode = .error →
      t.wim = s.wim → t.tba = s.tba → t.y = s.y → SpecialEffect i s t
  | wim (rs1 : RegNum) (o : RegImm) : i = .wrwim rs1 o → s.psr.s = true →
      t.tba = s.tba → t.y = s.y → t.tt = s.tt → SpecialEffect i s t
  | tba (rs1 : RegNum) (o : RegImm) : i = .wrtbr rs1 o → s.psr.s = true →
      t.wim = s.wim → t.y = s.y → t.tt = s.tt → SpecialEffect i s t
  | y : ((∃ rs1 o, i = .wry rs1 o) ∨ ∃ rd rs1 o, i = .mulscc rd rs1 o) →
      t.wim = s.wim → t.tba = s.tba → t.tt = s.tt → SpecialEffect i s t

theorem Ends.specialEffect (h : Ends i s t) : SpecialEffect i s t := by
  cases h with
  | trap k _ _ _ he hu =>
    obtain ⟨hwim, htba, hy, -⟩ := hu.special
    exact .trap (hu.trapTaken he k) ((trapEntry_wim k _).trans hwim) ((trapEntry_tba k _).trans htba)
      ((trapEntry_y k _).trans hy)
  | halt hu | cut hu =>
    obtain ⟨hwim, htba, hy, htt⟩ := hu.special
    exact .kept hwim htba hy htt
  | plain _ _ _ hu hv =>
    obtain ⟨hwim, htba, hy, htt⟩ := hu.special
    obtain ⟨hwim', htba', hy', htt'⟩ := hv.special
    exact .kept (hwim'.trans hwim) (htba'.trans htba) (hy'.trans hy) (htt'.trans htt)
  | flags _ _ hv | jump _ _ _ _ _ _ hv | window _ _ _ _ _ hv =>
    obtain ⟨hwim, htba, hy, htt⟩ := hv.special
    exact .kept hwim htba hy htt
  | multiply rd rs1 o _ _ hi hv =>
    obtain ⟨hwim, htba, -, htt⟩ := hv.special
    exact .y (.inr ⟨rd, rs1, o, hi⟩) hwim htba htt
  | notReturned rs1 o _ hi => exact .failed rs1 o hi rfl rfl rfl rfl
  | returned | psr => exact .kept rfl rfl rfl rfl
  | y rs1 o _ hi => exact .y (.inl ⟨rs1, o, hi⟩) rfl rfl rfl
  | wim rs1 o _ hi hs => exact .wim rs1 o hi hs rfl rfl rfl
  | tbr rs1 o _ hi hs => exact .tba rs1 o hi hs rfl rfl rfl

/-- Settles O55: the writers of each register, by the effect on the special registers. -/
theorem specialRegisterWriters : Obligations.SpecialRegisterWriters := by
  unfold Obligations.SpecialRegisterWriters
  intro i s t h
  cases (exec_ends h).specialEffect with
  | kept hwim htba hy htt => exact ⟨fun _ => hwim, fun _ => htba, fun _ _ => hy, .inl htt⟩
  | trap ht hwim htba hy => exact ⟨fun _ => hwim, fun _ => htba, fun _ _ => hy, .inr (.inl ht)⟩
  | failed rs1 o hi hm hwim htba hy =>
    exact ⟨fun _ => hwim, fun _ => htba, fun _ _ => hy, .inr (.inr ⟨rs1, o, hi, hm⟩)⟩
  | wim rs1 o hi _ htba hy htt => exact ⟨fun hne => absurd hi (hne rs1 o), fun _ => htba, fun _ _ => hy, .inl htt⟩
  | tba rs1 o hi _ hwim hy htt => exact ⟨fun _ => hwim, fun hne => absurd hi (hne rs1 o), fun _ _ => hy, .inl htt⟩
  | y hi hwim htba htt =>
    refine ⟨fun _ => hwim, fun _ => htba, fun hwry hmul => ?_, .inl htt⟩
    obtain ⟨rs1, o, hi⟩ | ⟨rd, rs1, o, hi⟩ := hi
    · exact absurd hi (hwry rs1 o)
    · exact absurd hi (hmul rd rs1 o)

/-! ### The PSR -/

/-- What an instruction that goes on can have made of the PSR: kept it, written icc alone or CWP alone, returned from a
trap, entered one, or written it as a whole (10_state R37, R46). -/
inductive PsrEffect (i : Instr) (s t : State) : Prop where
  | kept : t.psr = s.psr → PsrEffect i s t
  | icc (f : Icc) : writesIcc i = true → t.psr = { s.psr with icc := f } → PsrEffect i s t
  | cwp (rd rs1 : RegNum) (o : RegImm) (w : WindowNum) : i = .save rd rs1 o ∨ i = .restore rd rs1 o →
      t.psr = { s.psr with cwp := w } → PsrEffect i s t
  | returned (rs1 : RegNum) (o : RegImm) : i = .rett rs1 o → s.psr.s = true →
      t.psr = { s.psr with cwp := nextWindow s.psr.cwp, s := s.psr.ps, et := true } → PsrEffect i s t
  | trap : trapTaken s t → PsrEffect i s t
  | written (rs1 : RegNum) (o : RegImm) : i = .wrpsr rs1 o → s.psr.s = true → PsrEffect i s t

theorem Ends.psrEffect (h : Ends i s t) : PsrEffect i s t := by
  cases h with
  | trap k _ _ _ he hu => exact .trap (hu.trapTaken he k)
  | halt hu | cut hu => exact .kept hu.psr
  | plain _ _ _ hu hv => exact .kept (hv.psr.trans hu.psr)
  | flags f hi => exact .icc f hi rfl
  | multiply rd rs1 o f y hi => exact .icc f (by rw [hi]; rfl) rfl
  | jump _ _ _ _ _ _ hv => exact .kept hv.psr
  | window rd rs1 o w hi => exact .cwp rd rs1 o w hi rfl
  | returned rs1 o target hi hs => exact .returned rs1 o hi hs rfl
  | psr rs1 o p hi hs => exact .written rs1 o hi hs
  | notReturned | y | wim | tbr => exact .kept rfl

/-- Settles O54: the writers of each field, by the effect on the PSR. -/
theorem psrWriters : Obligations.PsrWriters := by
  unfold Obligations.PsrWriters
  intro i s t h hi
  cases (exec_ends h).psrEffect with
  | kept hp => simp [hp]
  | icc f hw hp => simp [hp, hw]
  | cwp rd rs1 o w hj hp =>
    have hsave : ¬ ∀ rd rs1 o, i ≠ .save rd rs1 o ∧ i ≠ .restore rd rs1 o := fun hall =>
      hj.elim (hall rd rs1 o).1 (hall rd rs1 o).2
    simp [hp, hsave]
  | returned rs1 o hj _ hp => simp [hp, hj]
  | trap ht =>
    obtain ⟨-, hp, -⟩ := trapTaken_entry ht
    simp [hp, trapPsr, ht]
  | written rs1 o hj => exact absurd hj (hi rs1 o)

/-! ### Memory -/

theorem placeOf_congr (h : t.spaces = s.spaces) (asi : Asi) (a : Word) : placeOf t asi a = placeOf s asi a := by
  simp only [placeOf, h]

/-- A byte that lies in no space the instruction may store to is as before (20_memory R94; 40_data_transfer R162). -/
theorem Ends.outside (h : Ends i s t) {p : Nat} (hp : ∀ asi, mayStore i s asi → ∀ a : Word, p ≠ placeOf s asi a) :
    t.mem.get p = s.mem.get p := by
  cases h with
  | trap k _ _ _ _ hu => rw [trapEntry_mem]; exact hu.outside hp
  | halt hu | cut hu => exact hu.outside hp
  | @plain u _ pc npc _ hu hv =>
    have hmem : u.mem = s.mem := (hu.unstored fun _ h => h).1
    refine (hv.outside fun asi ha a => ?_).trans (by rw [retire_mem, hmem])
    rw [placeOf_congr (s := s) (t := retire u pc npc) hu.spaces]
    exact hp asi ha a
  | flags _ _ hv | multiply _ _ _ _ _ _ hv | jump _ _ _ _ _ _ hv | window _ _ _ _ _ hv => exact hv.outside hp
  | _ => rfl

/-- A user mode instruction may store to the user data space only (20_memory R82; 60_exceptions R452). -/
theorem mayStore_user (hs : s.psr.s = false) {asi : Asi} (h : mayStore i s asi) : asi = 0x0A := by
  obtain ⟨-, hs' | rfl⟩ := h
  · rw [hs] at hs'; cases hs'
  · rw [dataAsi, hs]; rfl

/-! ### User mode -/

/-- WRWIM and WRTBR complete in supervisor mode only (60_exceptions R452). -/
theorem Ends.user_special (hs : s.psr.s = false) (h : Ends i s t) : t.wim = s.wim ∧ t.tba = s.tba := by
  cases h.specialEffect with
  | kept hwim htba => exact ⟨hwim, htba⟩
  | trap _ hwim htba => exact ⟨hwim, htba⟩
  | failed _ _ _ _ hwim htba => exact ⟨hwim, htba⟩
  | y _ hwim htba => exact ⟨hwim, htba⟩
  | wim _ _ _ hsup | tba _ _ _ hsup => rw [hs] at hsup; cases hsup

/-- In user mode the PSR keeps EC, EF and PIL, and S, PS and ET too unless a trap is taken, which leads to supervisor
mode with traps off (10_state R42, R46; 60_exceptions R452). -/
theorem Ends.user_psr (hs : s.psr.s = false) (h : Ends i s t) :
    t.psr.pil = s.psr.pil ∧ t.psr.ef = s.psr.ef ∧ t.psr.ec = s.psr.ec ∧
    ((t.psr.s = false ∧ t.psr.ps = s.psr.ps ∧ t.psr.et = s.psr.et) ∨
      (s.psr.et = true ∧ t.psr.s = true ∧ t.psr.ps = false ∧ t.psr.et = false ∧
        t.pc.extractLsb' 4 8 = t.tt ∧ t.npc = t.pc + 4)) := by
  cases h.psrEffect with
  | kept hp => simp [hp, hs]
  | icc f _ hp => simp [hp, hs]
  | cwp _ _ _ w _ hp => simp [hp, hs]
  | returned _ _ _ hsup => rw [hs] at hsup; cases hsup
  | trap ht =>
    obtain ⟨he, hp, hpc, hnpc⟩ := trapTaken_entry ht
    simp [hp, trapPsr, hs, he, hpc, hnpc]
  | written _ _ _ hsup => rw [hs] at hsup; cases hsup

/-- Settles O53: the registers and the memory an instruction of user mode leaves alone, part by part. -/
theorem userModeConfined : Obligations.UserModeConfined := by
  unfold Obligations.UserModeConfined
  intro i s t hs h
  have he := exec_ends h
  obtain ⟨hwim, htba⟩ := he.user_special hs
  obtain ⟨hpil, hef, hec, hmode⟩ := he.user_psr hs
  exact ⟨hwim, htba, hpil, hef, hec, hmode, fun p hp =>
    he.outside fun asi ha => by rw [mayStore_user hs ha]; exact hp⟩

end Effects
end Sys2Proof.Machine
end

section
/-! PROOFS. The invariant holds at reset and every step keeps it: first what each operation does to it, then every
way an instruction can end, then the step (10_state R34, R56; 43_state_registers R340; 20_memory R104): O2, O3. -/

namespace Sys2Proof.Machine

/-! ### The windows and the remembered words as they age -/

theorem PsrDelay.tick_sound {d : PsrDelay} (h : d.left ≤ 3) :
    d.tick.left ≤ 3 ∧ (d.tick.left = 0 → d.tick = PsrDelay.closed) := by
  unfold PsrDelay.tick
  split_ifs with hd
  · exact ⟨Nat.zero_le 3, fun _ => rfl⟩
  · exact ⟨by show d.left - 1 ≤ 3; omega, fun h0 : d.left - 1 = 0 => by omega⟩

theorem TbrDelay.tick_sound {d : TbrDelay} (h : d.left ≤ 3) :
    d.tick.left ≤ 3 ∧ (d.tick.left = 0 → d.tick = TbrDelay.closed) := by
  unfold TbrDelay.tick
  split_ifs with hd
  · exact ⟨Nat.zero_le 3, fun _ => rfl⟩
  · exact ⟨by show d.left - 1 ≤ 3; omega, fun h0 : d.left - 1 = 0 => by omega⟩

/-- What is remembered after one more instruction was remembered before with one instruction more left, and none that
had its last one is (20_memory R104). -/
theorem mem_ageStale {l : List StaleWord} {w : StaleWord} (h : w ∈ ageStale l) :
    ∃ v ∈ l, 1 < v.left ∧ w = { v with left := v.left - 1 } := by
  induction l with
  | nil => cases h
  | cons v l ih =>
    have hl : w ∈ ageStale l → ∃ x ∈ v :: l, 1 < x.left ∧ w = { x with left := x.left - 1 } := fun h => by
      obtain ⟨x, hx, hw⟩ := ih h
      exact ⟨x, List.mem_cons_of_mem v hx, hw⟩
    simp only [ageStale] at h
    split_ifs at h with hv
    · exact hl h
    · rcases List.mem_cons.1 h with hw | h
      · exact ⟨v, List.mem_cons_self, by omega, hw⟩
      · exact hl h

theorem staleSound_retire {s : State} (h : staleSound s) (pc npc : Word) : staleSound (retire s pc npc) := by
  intro w hw
  obtain ⟨v, hv, hlt, rfl⟩ := mem_ageStale hw
  have hle := (h v hv).2
  exact ⟨by show 1 ≤ v.left - 1; omega, by show v.left - 1 ≤ _; omega⟩

theorem windowsSound_retire {s : State} (h : windowsSound s) (pc npc : Word) : windowsSound (retire s pc npc) := by
  obtain ⟨hpsr, -, hwim, htbr, -, hy⟩ := h
  obtain ⟨hpsr', hpsr0⟩ := PsrDelay.tick_sound hpsr
  obtain ⟨htbr', htbr0⟩ := TbrDelay.tick_sound htbr
  exact ⟨hpsr', hpsr0, (Nat.sub_le _ 1).trans hwim, htbr', htbr0, (Nat.sub_le _ 1).trans hy⟩

/-! ### One lemma per operation -/

section Operations
variable {s : State}

theorem Inv.touched {ok : Asi → Prop} {u : State} (h : Inv s) (hu : Touched ok s u) : Inv u := by
  obtain ⟨hpc, hnpc, -, -, -, -, -, -, hpsr, hwim, htbr, hy, -⟩ := hu.kept
  refine ⟨hu.wf h.mem, ?_, ?_, hu.stale h.stale⟩
  · rw [pcsAligned, hpc, hnpc]; exact h.pcs
  · rw [windowsSound, hpsr, hwim, htbr, hy]; exact h.windows

theorem Inv.retire (h : Inv s) {pc npc : Word} (hpc : alignedTo 4 pc = true) (hnpc : alignedTo 4 npc = true) :
    Inv (retire s pc npc) :=
  ⟨h.mem, ⟨hpc, hnpc⟩, windowsSound_retire h.windows pc npc, staleSound_retire h.stale pc npc⟩

theorem Inv.advance (h : Inv s) : Inv (advance s) := h.retire h.pcs.2 (aligned_add_four h.pcs.2)

theorem Inv.delayedTo (h : Inv s) {target : Word} (ht : alignedTo 4 target = true) : Inv (delayedTo s target) :=
  h.retire h.pcs.2 ht

/-- The entries of the trap table are sixteen bytes apart (60_exceptions R431). -/
theorem aligned_tableEntry (b : BitVec 20) (k : BitVec 8) : alignedTo 4 (b ++ k ++ 0#4) = true :=
  aligned_of_bits (by rw [BitVec.getLsbD_append]; rfl) (by rw [BitVec.getLsbD_append]; rfl)

theorem windowsSound_settled (h : s.psrDelay = PsrDelay.closed) (hwim : s.wimDelay = 0)
    (htbr : s.tbrDelay = TbrDelay.closed) (hy : s.yDelay = 0) : windowsSound s := by
  rw [windowsSound, h, hwim, htbr, hy]; decide

theorem Inv.trapEntry (h : Inv s) (k : BitVec 8) : Inv (trapEntry k s) where
  mem := by rw [trapEntry_mem]; exact h.mem
  pcs := by
    rw [pcsAligned, trapEntry_pc, trapEntry_npc]
    exact ⟨aligned_tableEntry _ k, aligned_add_four (aligned_tableEntry _ k)⟩
  windows := windowsSound_settled (trapEntry_psrDelay k s) (trapEntry_wimDelay k s) (trapEntry_tbrDelay k s)
    (trapEntry_yDelay k s)
  stale := by rw [staleSound, trapEntry_stale]; exact h.stale

theorem Inv.releaseReset (h : Inv s) : Inv (releaseReset s) :=
  ⟨h.mem, show alignedTo 4 0 = true ∧ alignedTo 4 4 = true by decide, windowsSound_settled rfl rfl rfl rfl,
    h.stale⟩

theorem Inv.receiveInput (h : Inv s) : Inv (receiveInput s) :=
  ⟨Memory.setCells_wf h.mem _, h.pcs, h.windows, h.stale⟩

theorem Inv.assertReset (h : Inv s) : Inv (assertReset s) := ⟨h.mem, h.pcs, h.windows, h.stale⟩

theorem Inv.enterError (h : Inv s) : Inv (enterError s) := ⟨h.mem, h.pcs, h.windows, h.stale⟩

/-- Each write of a state register opens a window of three instructions (43_state_registers R340). -/
theorem Inv.writePsr (h : Inv s) (p : Psr) : Inv (writePsr p s) := by
  obtain ⟨hmem, hpcs, ⟨-, -, hwindows⟩, hstale⟩ := h.advance
  exact ⟨hmem, hpcs, ⟨le_refl 3, nofun, hwindows⟩, hstale⟩

theorem Inv.writeY (h : Inv s) (v : Word) : Inv (writeY v s) := by
  obtain ⟨hmem, hpcs, ⟨hpsr, hpsr0, hwim, htbr, htbr0, -⟩, hstale⟩ := h.advance
  exact ⟨hmem, hpcs, ⟨hpsr, hpsr0, hwim, htbr, htbr0, le_refl 3⟩, hstale⟩

theorem Inv.writeWim (h : Inv s) (v : Word) : Inv (writeWim v s) := by
  obtain ⟨hmem, hpcs, ⟨hpsr, hpsr0, -, hwindows⟩, hstale⟩ := h.advance
  exact ⟨hmem, hpcs, ⟨hpsr, hpsr0, le_refl 3, hwindows⟩, hstale⟩

theorem Inv.writeTbr (h : Inv s) (v : Word) : Inv (writeTbr v s) := by
  obtain ⟨hmem, hpcs, ⟨hpsr, hpsr0, hwim, -, -, hy⟩, hstale⟩ := h.advance
  exact ⟨hmem, hpcs, ⟨hpsr, hpsr0, hwim, le_refl 3, nofun, hy⟩, hstale⟩

end Operations

/-! ### Every end of an instruction, and the step -/

section Step
variable {s t : State}

/-- The invariant does not look at the PSR, Y or the JMPL mark, so an end that also writes one of them keeps it. -/
theorem Ends.inv {i : Instr} (h : Ends i s t) (hs : Inv s) : Inv t := by
  cases h with
  | trap k _ _ _ _ hu => exact (hs.touched hu).trapEntry k
  | halt hu => exact (hs.touched hu).enterError
  | cut hu => exact (hs.touched hu).assertReset
  | plain pc npc hal hu hv =>
    obtain ⟨hpc, hnpc⟩ := hal hs.pcs
    exact ((hs.touched hu).retire hpc hnpc).touched hv
  | flags _ _ hv | multiply _ _ _ _ _ _ hv | window _ _ _ _ _ hv =>
    obtain ⟨hmem, hpcs, hwindows, hstale⟩ := hs.advance.touched hv
    exact ⟨hmem, hpcs, hwindows, hstale⟩
  | jump _ _ _ target _ ht hv =>
    obtain ⟨hmem, hpcs, hwindows, hstale⟩ := (hs.delayedTo ht).touched hv
    exact ⟨hmem, hpcs, hwindows, hstale⟩
  | returned _ _ target _ _ ht =>
    obtain ⟨hmem, hpcs, hwindows, hstale⟩ := hs.delayedTo ht
    exact ⟨hmem, hpcs, hwindows, hstale⟩
  | notReturned => exact ⟨hs.mem, hs.pcs, hs.windows, hs.stale⟩
  | psr _ _ p => exact hs.writePsr p
  | y _ _ v => exact hs.writeY v
  | wim _ _ v => exact hs.writeWim v
  | tbr _ _ v => exact hs.writeTbr v

theorem exec_inv {i : Instr} (hs : Inv s) (h : exec i s = .next t) : Inv t := (exec_ends h).inv hs

theorem enterTrap_inv {k : Trap} (hs : Inv s) (h : enterTrap k s = .next t) : Inv t := by
  obtain ⟨-, -, rfl⟩ := enterTrap_next h
  exact hs.trapEntry _

theorem raise_inv {k : Trap} (hs : Inv s) (h : raise k s = .next t) : Inv t := by
  obtain ⟨-, ⟨-, -, -, rfl⟩ | ⟨-, rfl⟩⟩ := raise_next h
  · exact hs.trapEntry _
  · exact hs.enterError

theorem runDecoded_inv {d : Decoded} (hs : Inv s) (h : runDecoded d s = .next t) : Inv t := by
  rcases runDecoded_next h with ⟨i, -, h⟩ | h
  · exact exec_inv hs h
  · exact raise_inv hs h

theorem fetchAndRun_inv (hs : Inv s) (h : fetchAndRun s = .next t) : Inv t := by
  have hfetched : Inv (afterAnswer (fetchCycle s) s) := hs.touched (ok := nowhere) (.answer _ .refl)
  rcases fetchAndRun_cases s with ⟨-, e⟩ | ⟨-, e⟩ | ⟨-, e⟩ | ⟨-, e⟩ | ⟨w, e⟩ <;> rw [e] at h
  · cases h
  · exact raise_inv hfetched h
  · cases h; exact hfetched.assertReset
  · cases h
  · exact runDecoded_inv hfetched h

end Step

/-- Settles O2: memory is empty, PC 0 and nPC 4, every window closed, no word remembered. -/
theorem resetMeetsInvariant : Obligations.ResetMeetsInvariant :=
  ⟨reset_mem_wf, by decide, windowsSound_settled rfl rfl rfl rfl, nofun⟩

/-- Settles O3: at a boundary the inputs arrive, then RESET, its release, an interrupt or an instruction follows. -/
theorem stepKeepsInvariant : Obligations.StepKeepsInvariant := by
  unfold Obligations.StepKeepsInvariant
  intro s t hs h
  have hr := hs.receiveInput
  rcases step_next h with ⟨-, rfl⟩ | ⟨-, -, rfl⟩ | ⟨-, -, -, h⟩ | ⟨-, -, -, h⟩
  · exact hr.assertReset
  · exact hr.releaseReset
  · exact enterTrap_inv hr h
  · exact fetchAndRun_inv hr h

end Sys2Proof.Machine
end

section
/-! PROOFS. Memory as data and the word at a place (20_memory R80, R85, R88): O12, O13. -/

namespace Sys2Proof.Machine

/-! ### Reads that determine a memory -/

theorem Memory.get_head (p : Nat) (b : Byte) (m : Memory) : Memory.get ((p, b) :: m) p = b := if_pos rfl

theorem Memory.get_tail {p a : Nat} (b : Byte) (m : Memory) (h : p ≠ a) :
    Memory.get ((p, b) :: m) a = m.get a := if_neg h

/-- In canonical form the first listed place is the first that reads as something written (20_memory R80). -/
theorem Memory.head_le_of_get {p a : Nat} {b : Byte} {m : Memory} (h : Memory.wf ((p, b) :: m) = true)
    (ha : Memory.get ((p, b) :: m) a ≠ unlistedByte a) : p ≤ a := by
  obtain ⟨-, hlt, -⟩ := Memory.wf_cons.1 h
  by_contra hc
  have hap : a < p := Nat.lt_of_not_le hc
  exact ha (Memory.get_below (List.forall_mem_cons.2 ⟨hap, fun c hcm => hap.trans (hlt c hcm)⟩))

/-- Settles O12: by induction on the lists: two that read alike have the same first entry, and their rests read
alike. -/
theorem memoryEqualWhenReadsEqual : Obligations.MemoryEqualWhenReadsEqual := by
  unfold Obligations.MemoryEqualWhenReadsEqual
  intro m
  induction m with
  | nil =>
    rintro (_ | ⟨⟨q, c⟩, n⟩) - hn hget
    · rfl
    · obtain ⟨hc, -, -⟩ := Memory.wf_cons.1 hn
      exact absurd ((Memory.get_head q c n).symm.trans (hget q).symm) hc
  | cons e m ih =>
    obtain ⟨p, b⟩ := e
    rintro (_ | ⟨⟨q, c⟩, n⟩) hm hn hget <;> obtain ⟨hb, hltp, hm'⟩ := Memory.wf_cons.1 hm
    · exact absurd ((Memory.get_head p b m).symm.trans (hget p)) hb
    obtain ⟨hc, hltq, hn'⟩ := Memory.wf_cons.1 hn
    have hqp : q ≤ p := Memory.head_le_of_get hn (by rwa [← hget p, Memory.get_head])
    have hpq : p ≤ q := Memory.head_le_of_get hm (by rwa [hget q, Memory.get_head])
    obtain rfl : p = q := Nat.le_antisymm hpq hqp
    have hbc : b = c := by rw [← Memory.get_head p b m, hget p, Memory.get_head]
    have hrest : m = n := ih n hm' hn' fun a => by
      by_cases ha : p = a
      · subst ha; rw [Memory.get_below hltp, Memory.get_below hltq]
      · rw [← Memory.get_tail b m ha, hget a, Memory.get_tail c n ha]
    rw [hbc, hrest]

/-! ### The word at a place -/

theorem Memory.word_congr {m n : Memory} {p : Nat} (h : ∀ q, p ≤ q → q < p + 4 → n.get q = m.get q) :
    n.word p = m.word p := by
  unfold Memory.word
  rw [h p (by omega) (by omega), h (p + 1) (by omega) (by omega), h (p + 2) (by omega) (by omega),
    h (p + 3) (by omega) (by omega)]

theorem halfOfBytes_high (v : Word) : halfOfBytes (byteOfWord v 0) (byteOfWord v 1) = v.extractLsb' 16 16 := by
  ext k hk; simp [halfOfBytes, byteOfWord]; grind

theorem halfOfBytes_low (v : Word) : halfOfBytes (byteOfWord v 2) (byteOfWord v 3) = v.extractLsb' 0 16 := by
  ext k hk; simp [halfOfBytes, byteOfWord]; grind

/-- Settles O13: the four bytes first, then what the word and the halfwords make of them. -/
theorem memoryWordReadBack : Obligations.MemoryWordReadBack := by
  unfold Obligations.MemoryWordReadBack
  intro m p v hm m'
  have hbyte : ∀ k (hk : k < 4), m'.get (p + k) = byteOfWord v k := fun k hk => by
    rw [Memory.get_setBytes_inside hm p (bytesOfWord v) (k := k) hk]
    interval_cases k <;> rfl
  have h0 : m'.get p = byteOfWord v 0 := hbyte 0 (by decide)
  have h1 := hbyte 1 (by decide)
  have h2 := hbyte 2 (by decide)
  have h3 := hbyte 3 (by decide)
  refine ⟨?_, ?_, ?_, h0, h1, h2, h3, fun q hq => Memory.get_setBytes_outside m p (bytesOfWord v) hq⟩
  · rw [Memory.word, h0, h1, h2, h3, wordOfBytes_bytes]
  · rw [Memory.half, h0, h1, halfOfBytes_high]
  · rw [Memory.half, h2, h3, halfOfBytes_low]

end Sys2Proof.Machine
end

section
/-! PROOFS. What closed windows settle, and a step that fetches and runs an instruction (20_memory R82, R86, R104;
43_state_registers R340): O16, O4. -/

namespace Sys2Proof.Machine

theorem interruptTestOpen_settled {s : State} (h : s.psrDelay.left = 0) : interruptTestOpen s = false := by
  rw [interruptTestOpen, live_settled h]; rfl

/-- Settles O16: a closed window leaves no choice between an old and a new value. -/
theorem settledSeesRegisters : Obligations.SettledSeesRegisters := by
  unfold Obligations.SettledSeesRegisters
  intro s
  refine ⟨fun hs => ⟨fun i => ready_settled i hs, ?_⟩, fun hu => ?_, fun hs => ?_⟩
  · obtain ⟨hpsr, -, htbr, -⟩ := hs
    simp [trapBase, testEt, testPil, interruptTestOpen_settled hpsr, htbr]
  · simp [dataAsi, fetchAsi, hu]
  · simp [dataAsi, fetchAsi, hs]

/-! ### The fetch -/

theorem step_execute {s : State} (hm : s.mode = .execute) (hr : (nextInput s).reset = false)
    (hi : acceptsInterrupt (receiveInput s) (nextInput s).irl = false) :
    step s = fetchAndRun (receiveInput s) := by
  simp only [step, runStep, receiveInput_mode, hm, hr, hi, Bool.false_eq_true, if_false]

theorem fetchAndRun_memory {s : State} (hl : s.psrDelay.live.s = false) (h : nextAnswer s = .memory) :
    fetchAndRun s = runDecoded (decode (fetchedWord s (fetchPlace s))) (afterAnswer (fetchCycle s) s) := by
  rw [← decodeBytes_bytesOfWord, fetchAndRun, if_neg (by simp [hl]), transact_memory h]; rfl

theorem fetchAndRun_device {s : State} {d : Word} (hl : s.psrDelay.live.s = false) (h : nextAnswer s = .device d) :
    fetchAndRun s = runDecoded (decode d) (afterAnswer (fetchCycle s) s) := by
  rw [← decodeBytes_bytesOfWord, fetchAndRun, if_neg (by simp [hl])]
  simp only [transact, h]

/-- Where no earlier contents are remembered, a fetch gets what memory holds (20_memory R104). -/
theorem fetchedWord_current {s : State} {p : Nat} (h : staleWords s.stale p = []) :
    fetchedWord s p = s.mem.word p := by rw [fetchedWord, h]

/-- Settles O4: the step is the fetch after the inputs, and the fetch is answered by memory or by a device. -/
theorem stepRunsDecodedInstruction : Obligations.StepRunsDecodedInstruction := by
  unfold Obligations.StepRunsDecodedInstruction
  intro s i hm hr hi hl fetched
  have hstep := step_execute hm hr hi
  have hfetched : afterAnswer (fetchCycle (receiveInput s)) (receiveInput s) = fetched := afterAnswer_eq _ _
  refine ⟨fun ha hstale hdec => ?_, fun d ha hdec => ?_⟩
  · have hword : decode (fetchedWord (receiveInput s) (fetchPlace (receiveInput s))) = .instr i :=
      (congrArg decode (fetchedWord_current (s := receiveInput s) hstale)).trans hdec
    rw [hstep, fetchAndRun_memory (s := receiveInput s) hl ha, hfetched, hword]; rfl
  · rw [hstep, fetchAndRun_device (s := receiveInput s) hl ha, hfetched, hdec]; rfl

end Sys2Proof.Machine
end

section
/-! PROOFS. A raised trap as the statements say it, and the integer loads and stores, each as the operation it makes at
its address (60_exceptions R430, R431; 40_data_transfer R161, R162): the layer of O33, O35 and O36. -/

namespace Sys2Proof.Machine

/-! ### A raised trap, as the statements say it -/

theorem trapped_trapEntry (k : BitVec 8) (s : State) : trapped k s (trapEntry k s) := by
  refine ⟨trapEntry_psr k s, readWin_trapEntry_17 k s, readWin_trapEntry_18 k s, fun h h17 h18 => ?_,
    by simp [sameSpecial], fun p => by rw [trapEntry_mem], by simp, trapEntry_pc k s, ?_, trapEntry_settled k s⟩
  · rw [readHome_trapEntry]
    exact (readHome_writeWin_ne _ _ _ _ h18).trans (readHome_writeWin_ne _ _ _ _ h17)
  · rw [trapEntry_npc, trapEntry_pc]

/-- `raise` is what the statements call a raised trap, whatever is unsettled (60_exceptions R430). -/
theorem raises_raise (k : Trap) (s : State) : raises (trapType k) s (raise k s) := by
  refine ⟨fun hr => ?_, fun hr he => ?_, fun hr he => ?_⟩
  · rcases hr with hl | ⟨he, hl⟩
    · simp only [raise, hl, if_true]
    · cases hle : s.psrDelay.live.et
      · rw [raise_enabled hle he, enterTrap]
        rcases hl with hl | hl <;> simp [hl]
      · simp only [raise, hle, if_true]
  · simp only [he, true_and, not_or, Bool.not_eq_true] at hr
    obtain ⟨hle, hls, hlw⟩ := hr
    exact ⟨_, (raise_enabled hle he).trans (enterTrap_settled hls hlw), trapped_trapEntry _ s⟩
  · simp only [not_or, Bool.not_eq_true] at hr
    exact raise_disabled hr.1 he

/-! ### The instructions of one address form -/

/-- Unless it uses what is unsettled, the instruction is this operation. -/
def runsAs (s : State) (i : Instr) (act : Answer) : Prop := ready i s → exec i s = act

theorem runsAs_of_exec {s : State} {i : Instr} {act : Answer} (h : exec i s = unlessUnsettled i s act) :
    runsAs s i act := fun hr => h.trans (unlessUnsettled_ready hr)

/-- An instruction that goes on is the operation it runs as. -/
theorem runsAs_next {s t : State} {i : Instr} {act : Answer} (h : runsAs s i act) (hx : exec i s = .next t) :
    act = .next t := by
  obtain ⟨act', e⟩ := exec_unlessUnsettled i s
  exact (h (unlessUnsettled_next (e.symm.trans hx)).1).symm.trans hx

theorem runsAs_raise {s : State} {i : Instr} {k : Trap} (h : runsAs s i (raise k s)) : traps (trapType k) s i :=
  fun hr => by rw [h hr]; exact raises_raise k s

/-- The integer loads, stores and the atomic load-store of one address form (40_data_transfer R170 to R191). -/
structure IntegerAccesses where
  ldsb : Instr
  ldub : Instr
  ldsh : Instr
  lduh : Instr
  ld : Instr
  ldd : Instr
  stb : Instr
  sth : Instr
  st : Instr
  std : Instr
  ldstub : Instr

/-- The form `[r[rs1] + op2]`. -/
def plainAccesses (rd rs1 : RegNum) (o : RegImm) : IntegerAccesses :=
  ⟨.ldsb rd rs1 o, .ldub rd rs1 o, .ldsh rd rs1 o, .lduh rd rs1 o, .ld rd rs1 o, .ldd rd rs1 o,
    .stb rd rs1 o, .sth rd rs1 o, .st rd rs1 o, .std rd rs1 o, .ldstub rd rs1 o⟩

/-- The form `[r[rs1] + r[rs2]] asi` (40_data_transfer R162). -/
def alternateAccesses (rd rs1 rs2 : RegNum) (asi : Asi) : IntegerAccesses :=
  let a : AltOperand := .reg asi rs2
  ⟨.ldsba rd rs1 a, .lduba rd rs1 a, .ldsha rd rs1 a, .lduha rd rs1 a, .lda rd rs1 a, .ldda rd rs1 a,
    .stba rd rs1 a, .stha rd rs1 a, .sta rd rs1 a, .stda rd rs1 a, .ldstuba rd rs1 a⟩

/-- A doubleword access of `r[rd]` does nothing for an odd rd (40_data_transfer R166). -/
def unlessOdd (rd : RegNum) (act : Answer) : Answer :=
  if oddPair rd then .refused .oddDoublewordRegister else act

/-- From `s` each instruction of the form makes its access of `r[rd]` at `ea` in the space `asi`. -/
structure IntegerAccesses.MadeAt (f : IntegerAccesses) (s : State) (rd : RegNum) (asi : Asi) (ea : Word) : Prop where
  ldsb : runsAs s f.ldsb (loadReg .byte signByte asi ea rd s)
  ldub : runsAs s f.ldub (loadReg .byte id asi ea rd s)
  ldsh : runsAs s f.ldsh (loadReg .half signHalf asi ea rd s)
  lduh : runsAs s f.lduh (loadReg .half id asi ea rd s)
  ld : runsAs s f.ld (loadReg .word id asi ea rd s)
  ldd : runsAs s f.ldd (unlessOdd rd (loadPair asi ea rd s))
  stb : runsAs s f.stb (storeReg .byte asi ea rd s)
  sth : runsAs s f.sth (storeReg .half asi ea rd s)
  st : runsAs s f.st (storeReg .word asi ea rd s)
  std : runsAs s f.std (unlessOdd rd (storePair asi ea (readReg s rd) (readReg s (rd + 1)) s))
  ldstub : runsAs s f.ldstub (loadStoreByte asi ea rd s)

theorem plainAccesses_madeAt (s : State) (rd rs1 : RegNum) (o : RegImm) :
    (plainAccesses rd rs1 o).MadeAt s rd (dataAsi s) (readReg s rs1 + opValue s o) where
  ldsb := runsAs_of_exec rfl
  ldub := runsAs_of_exec rfl
  ldsh := runsAs_of_exec rfl
  lduh := runsAs_of_exec rfl
  ld := runsAs_of_exec rfl
  ldd := runsAs_of_exec rfl
  stb := runsAs_of_exec rfl
  sth := runsAs_of_exec rfl
  st := runsAs_of_exec rfl
  std := runsAs_of_exec rfl
  ldstub := runsAs_of_exec rfl

theorem withAlternate_supervisor {s : State} (hs : supervisor s) (rs1 rs2 : RegNum) (asi : Asi)
    (f : Asi → Word → Answer) :
    withAlternate rs1 (.reg asi rs2) s f = f asi (readReg s rs1 + readReg s rs2) := if_pos hs

theorem runsAs_alternate {s : State} {i : Instr} {rs1 rs2 : RegNum} {asi : Asi} {f : Asi → Word → Answer}
    (hs : supervisor s) (h : exec i s = unlessUnsettled i s (withAlternate rs1 (.reg asi rs2) s f)) :
    runsAs s i (f asi (readReg s rs1 + readReg s rs2)) := by
  rw [withAlternate_supervisor hs] at h
  exact runsAs_of_exec h

theorem alternateAccesses_madeAt {s : State} (hs : supervisor s) (rd rs1 rs2 : RegNum) (asi : Asi) :
    (alternateAccesses rd rs1 rs2 asi).MadeAt s rd asi (readReg s rs1 + readReg s rs2) where
  ldsb := runsAs_alternate (f := fun asi ea => loadReg .byte signByte asi ea rd s) hs rfl
  ldub := runsAs_alternate (f := fun asi ea => loadReg .byte id asi ea rd s) hs rfl
  ldsh := runsAs_alternate (f := fun asi ea => loadReg .half signHalf asi ea rd s) hs rfl
  lduh := runsAs_alternate (f := fun asi ea => loadReg .half id asi ea rd s) hs rfl
  ld := runsAs_alternate (f := fun asi ea => loadReg .word id asi ea rd s) hs rfl
  ldd := runsAs_alternate (f := fun asi ea => unlessOdd rd (loadPair asi ea rd s)) hs rfl
  stb := runsAs_alternate (f := fun asi ea => storeReg .byte asi ea rd s) hs rfl
  sth := runsAs_alternate (f := fun asi ea => storeReg .half asi ea rd s) hs rfl
  st := runsAs_alternate (f := fun asi ea => storeReg .word asi ea rd s) hs rfl
  std := runsAs_alternate
    (f := fun asi ea => unlessOdd rd (storePair asi ea (readReg s rd) (readReg s (rd + 1)) s)) hs rfl
  ldstub := runsAs_alternate (f := fun asi ea => loadStoreByte asi ea rd s) hs rfl

theorem oddPair_even {rd : RegNum} (h : rd.toNat % 2 = 0) : oddPair rd = false := by
  simp only [oddPair, BitVec.getLsbD, Nat.testBit_zero, h]; rfl

theorem unlessOdd_even {rd : RegNum} {act : Answer} (h : rd.toNat % 2 = 0) : unlessOdd rd act = act := by
  rw [unlessOdd, oddPair_even h]; rfl

theorem unlessOdd_next {rd : RegNum} {act : Answer} {t : State} (h : unlessOdd rd act = .next t) :
    act = .next t := by
  unfold unlessOdd at h
  split at h
  · cases h
  · exact h

end Sys2Proof.Machine
end

section
/-! PROOFS. Accesses that fail: misaligned addresses, MEXC, RESET and no answer (20_memory R91, R107, R108;
40_data_transfer R161; 70_reset_and_hazards R481; 50_bus_signals R398): O33, O35. -/

namespace Sys2Proof.Machine

/-! ### A misaligned address -/

section Accesses
variable {f : IntegerAccesses} {s : State} {rd : RegNum} {asi : Asi} {ea : Word}

theorem alignedTo_eq_true {n : Nat} : alignedTo n ea = true ↔ ea.toNat % n = 0 := beq_iff_eq

theorem loadReg_misaligned {z : Size} {ext : Word → Word} (h : ea.toNat % z.bytes ≠ 0) :
    loadReg z ext asi ea rd s = raise .memAddressNotAligned s := if_neg (alignedTo_eq_true.not.2 h)

theorem storeReg_misaligned {z : Size} (h : ea.toNat % z.bytes ≠ 0) :
    storeReg z asi ea rd s = raise .memAddressNotAligned s := if_neg (alignedTo_eq_true.not.2 h)

theorem loadPair_misaligned (h : ea.toNat % 8 ≠ 0) : loadPair asi ea rd s = raise .memAddressNotAligned s :=
  if_neg (alignedTo_eq_true.not.2 h)

theorem storePair_misaligned {hi lo : Word} (h : ea.toNat % 8 ≠ 0) :
    storePair asi ea hi lo s = raise .memAddressNotAligned s := if_neg (alignedTo_eq_true.not.2 h)

theorem IntegerAccesses.MadeAt.misaligned_half (hf : f.MadeAt s rd asi ea) (h : ea.toNat % 2 ≠ 0) :
    traps 7 s f.ldsh ∧ traps 7 s f.lduh ∧ traps 7 s f.sth := by
  have hldsh := hf.ldsh
  have hlduh := hf.lduh
  have hsth := hf.sth
  rw [loadReg_misaligned h] at hldsh hlduh
  rw [storeReg_misaligned h] at hsth
  exact ⟨runsAs_raise hldsh, runsAs_raise hlduh, runsAs_raise hsth⟩

theorem IntegerAccesses.MadeAt.misaligned_word (hf : f.MadeAt s rd asi ea) (h : ea.toNat % 4 ≠ 0) :
    traps 7 s f.ld ∧ traps 7 s f.st := by
  have hld := hf.ld
  have hst := hf.st
  rw [loadReg_misaligned h] at hld
  rw [storeReg_misaligned h] at hst
  exact ⟨runsAs_raise hld, runsAs_raise hst⟩

theorem IntegerAccesses.MadeAt.misaligned_double (hf : f.MadeAt s rd asi ea) (h : ea.toNat % 8 ≠ 0)
    (hrd : rd.toNat % 2 = 0) : traps 7 s f.ldd ∧ traps 7 s f.std := by
  have hldd := hf.ldd
  have hstd := hf.std
  rw [unlessOdd_even hrd, loadPair_misaligned h] at hldd
  rw [unlessOdd_even hrd, storePair_misaligned h] at hstd
  exact ⟨runsAs_raise hldd, runsAs_raise hstd⟩

end Accesses

theorem jmpl_misaligned {s : State} {rs1 : RegNum} {o : RegImm} (rd : RegNum)
    (h : (readReg s rs1 + opValue s o).toNat % 4 ≠ 0) : traps 7 s (.jmpl rd rs1 o) :=
  runsAs_raise (k := .memAddressNotAligned) fun hr =>
    (unlessUnsettled_ready hr).trans (if_neg (alignedTo_eq_true.not.2 h))

/-- Settles O33: the two address forms by their accesses, and JMPL by its own check. -/
theorem misalignedAccess : Obligations.MisalignedAccess := by
  unfold Obligations.MisalignedAccess
  intro s rd rs1 rs2 o asi ea ea'
  have hp := plainAccesses_madeAt s rd rs1 o
  have ha := fun hs : supervisor s => alternateAccesses_madeAt hs rd rs1 rs2 asi
  simp only [List.forall_mem_cons, List.not_mem_nil, false_imp_iff, implies_true, and_true]
  refine ⟨hp.misaligned_half, fun h => ?_, hp.misaligned_double,
    fun hs => ⟨(ha hs).misaligned_half, (ha hs).misaligned_word, (ha hs).misaligned_double⟩⟩
  obtain ⟨hld, hst⟩ := hp.misaligned_word h
  exact ⟨hld, hst, jmpl_misaligned rd h⟩

/-! ### What a transaction that is not answered by data leaves -/

section Transact
variable {c : BusCycle} {s : State} {failed cut : State → Answer} {done : BusAnswer → State → Answer}

theorem transact_mexc (h : nextAnswer s = .mexc) : transact c s failed cut done = failed (afterAnswer c s) := by
  simp only [transact, h]

theorem transact_reset (h : nextAnswer s = .reset) : transact c s failed cut done = cut (afterAnswer c s) := by
  simp only [transact, h]

theorem transact_held (h : nextAnswer s = .held) : transact c s failed cut done = .fault .heldForever := by
  simp only [transact, h]

end Transact

/-- The second listed answer is the next after one transaction (20_memory R84). -/
theorem nextAnswer_afterAnswer {c : BusCycle} {s : State} {a : BusAnswer} (h : s.bus[1]? = some a) :
    nextAnswer (afterAnswer c s) = a := by
  rw [nextAnswer, afterAnswer_bus, List.headD_eq_head?_getD, List.head?_eq_getElem?, List.getElem?_tail, h]
  rfl

/-- An access that is the first of its instruction: MEXC raises data_access_exception with nothing else changed, RESET
leaves nothing, no answer leads nowhere (20_memory R107; 70_reset_and_hazards R481; 50_bus_signals R398). -/
def firstAccess (s : State) (i : Instr) (c : BusCycle) : Prop := ready i s →
  (nextAnswer s = .mexc → raises 9 (afterCycles s [c]) (exec i s)) ∧
  (nextAnswer s = .reset → exec i s = .next { afterCycles s [c] with mode := .reset }) ∧
  (nextAnswer s = .held → exec i s = .fault .heldForever)

theorem firstAccess_of_transact {s : State} {i : Instr} {c : BusCycle} {done : BusAnswer → State → Answer}
    (h : runsAs s i (transact c s (raise .dataAccessException) cutByReset done)) : firstAccess s i c := by
  intro hr
  rw [h hr, ← afterAnswer_eq]
  refine ⟨fun ha => ?_, fun ha => ?_, fun ha => transact_held ha⟩
  · rw [transact_mexc ha]; exact raises_raise .dataAccessException _
  · rw [transact_reset ha]; rfl

/-- An access after one that memory answered: on MEXC the effect `half` of the first may be there or not (20_memory
R108), and on RESET the effect `cut` (70_reset_and_hazards R481). -/
def secondAccess (s : State) (i : Instr) (c d : BusCycle) (half cut : State → State) : Prop :=
  let s2 := afterCycles s [c, d]
  ready i s → nextAnswer s = .memory →
  (s.bus[1]? = some .mexc → raises 9 s2 (exec i s) ∨ raises 9 (half s2) (exec i s)) ∧
  (s.bus[1]? = some .reset →
    exec i s = .next { s2 with mode := .reset } ∨ exec i s = .next { cut s2 with mode := .reset }) ∧
  (s.bus[1]? = some .held → exec i s = .fault .heldForever)

/-- It is enough that the state left by MEXC and the one left by RESET are each one of their two. -/
theorem secondAccess_of_transact {s : State} {i : Instr} {c d : BusCycle} {half cut left leftByReset : State → State}
    {done done2 : BusAnswer → State → Answer}
    (h : runsAs s i (transact c s (raise .dataAccessException) cutByReset done))
    (hd : done .memory (afterAnswer c s) = transact d (afterAnswer c s)
      (fun s2 => raise .dataAccessException (left s2)) (fun s2 => cutByReset (leftByReset s2)) done2)
    (hl : let s2 := afterCycles s [c, d]; left s2 = s2 ∨ left s2 = half s2)
    (hr : let s2 := afterCycles s [c, d]; leftByReset s2 = s2 ∨ leftByReset s2 = cut s2) :
    secondAccess s i c d half cut := by
  intro hready ha
  rw [h hready, transact_memory ha, hd]
  refine ⟨fun hb => ?_, fun hb => ?_, fun hb => transact_held (nextAnswer_afterAnswer hb)⟩
  · rw [transact_mexc (nextAnswer_afterAnswer hb), afterAnswer_two]
    have hraise := raises_raise .dataAccessException (left (afterCycles s [c, d]))
    exact hl.imp (fun e => by rwa [e] at hraise ⊢) (fun e => by rwa [e] at hraise ⊢)
  · rw [transact_reset (nextAnswer_afterAnswer hb), afterAnswer_two]
    exact hr.imp (fun e => by rw [e]; rfl) (fun e => by rw [e]; rfl)

/-! ### Each access, with the transactions as the statement writes them -/

theorem Size.datum_byte (v : Word) : Size.datum v .byte = BitVec.ofNat 32 (v.toNat % 2 ^ 8) :=
  BitVec.eq_of_toNat_eq (by simp [Size.datum])

theorem Size.datum_half (v : Word) : Size.datum v .half = BitVec.ofNat 32 (v.toNat % 2 ^ 16) :=
  BitVec.eq_of_toNat_eq (by simp [Size.datum])

theorem Size.datum_word (v : Word) : Size.datum v .word = BitVec.ofNat 32 v.toNat :=
  BitVec.eq_of_toNat_eq (by simp [Size.datum])

theorem zeroExtend_byte (b : Byte) : b.zeroExtend 32 = BitVec.ofNat 32 b.toNat :=
  BitVec.eq_of_toNat_eq (by simp)

section Accesses
variable {s : State} {i : Instr} {rd : RegNum} {asi : Asi} {ea : Word}

theorem firstAccess_load {z : Size} {ext : Word → Word} (h : runsAs s i (loadReg z ext asi ea rd s))
    (ha : ea.toNat % z.bytes = 0) : firstAccess s i (loadCycle asi ea z) := by
  rw [loadReg, if_pos (alignedTo_eq_true.2 ha)] at h
  exact firstAccess_of_transact h

theorem firstAccess_store {z : Size} (h : runsAs s i (storeReg z asi ea rd s))
    (ha : ea.toNat % z.bytes = 0) : firstAccess s i (storeCycle asi ea z (readReg s rd)) := by
  rw [storeReg, if_pos (alignedTo_eq_true.2 ha)] at h
  exact firstAccess_of_transact h

theorem accesses_loadPair (h : runsAs s i (loadPair asi ea rd s)) (ha : ea.toNat % 8 = 0) :
    firstAccess s i (pairLoadCycle false asi ea) ∧
    secondAccess s i (pairLoadCycle false asi ea) (pairLoadCycle true asi (ea + 4))
      (fun u => writeWin u (curWindow s) rd (s.mem.word (placeOf s asi ea))) id := by
  rw [loadPair, if_pos (alignedTo_eq_true.2 ha)] at h
  exact ⟨firstAccess_of_transact h,
    secondAccess_of_transact (leftByReset := id) h rfl (partially_cases s _ _).symm (.inl rfl)⟩

theorem accesses_storePair {hi lo : Word} (h : runsAs s i (storePair asi ea hi lo s)) (ha : ea.toNat % 8 = 0) :
    firstAccess s i (pairStoreCycle asi ea hi) ∧
    secondAccess s i (pairStoreCycle asi ea hi) (pairStoreCycle asi (ea + 4) lo)
      (fun u => writePlace u (placeOf s asi ea) .word hi) (fun u => writePlace u (placeOf s asi ea) .word hi) := by
  rw [storePair, if_pos (alignedTo_eq_true.2 ha)] at h
  exact ⟨firstAccess_of_transact h,
    secondAccess_of_transact h rfl (partially_cases s _ _).symm (partially_cases s _ _).symm⟩

theorem accesses_loadStoreByte (h : runsAs s i (loadStoreByte asi ea rd s)) :
    firstAccess s i (atomicReadCycle asi ea) ∧
    secondAccess s i (atomicReadCycle asi ea) (atomicWriteCycle asi ea)
      (fun u => writeWin u (curWindow s) rd (BitVec.ofNat 32 (byteAt s asi ea).toNat))
      (fun u => writeWin u (curWindow s) rd (BitVec.ofNat 32 (byteAt s asi ea).toNat)) := by
  rw [← zeroExtend_byte]
  exact ⟨firstAccess_of_transact h,
    secondAccess_of_transact h rfl (partially_cases s _ _).symm (partially_cases s _ _).symm⟩

end Accesses

theorem forall_mem_two {P : Instr → Prop} {i j : Instr} (hi : P i) (hj : P j) : ∀ k ∈ [i, j], P k :=
  List.forall_mem_cons.2 ⟨hi, List.forall_mem_singleton.2 hj⟩

/-- Settles O35: the two address forms by their accesses, those of one transaction and those of two. -/
theorem dataAccessExceptions : Obligations.DataAccessExceptions := by
  unfold Obligations.DataAccessExceptions
  intro s rd rs1 rs2 o space v first second single double ea ea' alt
  have hsingle : ∀ {f : IntegerAccesses} {asi : Asi} {ea : Word}, f.MadeAt s rd asi ea →
      single f.ldsb f.ldub f.stb f.ldsh f.lduh f.sth f.ld f.st asi ea := by
    intro f asi ea hf
    have hbyte : ea.toNat % Size.byte.bytes = 0 := Nat.mod_one _
    have hstb := firstAccess_store hf.stb hbyte
    rw [storeCycle, Size.datum_byte] at hstb
    refine ⟨forall_mem_two (firstAccess_load hf.ldsb hbyte) (firstAccess_load hf.ldub hbyte), hstb, fun h2 => ?_,
      fun h4 => ?_⟩
    · have hsth := firstAccess_store hf.sth h2
      rw [storeCycle, Size.datum_half] at hsth
      exact ⟨forall_mem_two (firstAccess_load hf.ldsh h2) (firstAccess_load hf.lduh h2), hsth⟩
    · have hst := firstAccess_store hf.st h4
      rw [storeCycle, Size.datum_word] at hst
      exact ⟨firstAccess_load hf.ld h4, hst⟩
  have hdouble : ∀ {f : IntegerAccesses} {asi : Asi} {ea : Word}, f.MadeAt s rd asi ea →
      double f.ldd f.std f.ldstub asi ea := by
    intro f asi ea hf
    obtain ⟨hread, hwrite⟩ := accesses_loadStoreByte hf.ldstub
    refine ⟨hread, hwrite, fun h8 hrd => ?_⟩
    have hldd := hf.ldd
    have hstd := hf.std
    rw [unlessOdd_even hrd] at hldd hstd
    obtain ⟨hload, hload2⟩ := accesses_loadPair hldd h8
    obtain ⟨hstore, hstore2⟩ := accesses_storePair hstd h8
    exact ⟨hload, hload2, hstore, hstore2⟩
  have hp := plainAccesses_madeAt s rd rs1 o
  have ha := fun hs : supervisor s => alternateAccesses_madeAt hs rd rs1 rs2 space
  exact ⟨hsingle hp, hdouble hp, fun hs => ⟨hsingle (ha hs), hdouble (ha hs)⟩⟩

end Sys2Proof.Machine
end

section
/-! PROOFS. How completed instructions age the remembered words, and what a fetch of a stored word gives (20_memory
R104): O36. -/

namespace Sys2Proof.Machine

/-! ### What a completed instruction leaves of the remembered words and of memory -/

section Completed
variable {i : Instr} {s t u : State}

/-- What is remembered after an instruction: a word it stored, or one remembered before with one instruction more
left (20_memory R104). -/
def agedOrStored (i : Instr) (s : State) (w : StaleWord) : Prop :=
  (storing i = true ∧ w.left = Config.prefetchDepth) ∨
    ∃ v ∈ s.stale, 1 < v.left ∧ w = { v with left := v.left - 1 }

theorem Touched.stale_agedOrStored (h : Touched (mayStore i s) u t) (hu : u.stale = ageStale s.stale) {w : StaleWord}
    (hw : w ∈ t.stale) : agedOrStored i s w := by
  cases hi : storing i
  · have hno : ∀ asi, ¬ mayStore i s asi := fun asi ha => by rw [ha.1] at hi; cases hi
    rw [(h.unstored hno).2, hu] at hw
    exact .inr (mem_ageStale hw)
  · obtain ⟨l, e, hl⟩ := h.staleAdded
    rw [e, hu] at hw
    rcases List.mem_append.1 hw with hw | hw
    · exact .inl ⟨hi, hl w hw⟩
    · exact .inr (mem_ageStale hw)

/-- A trap of a touched state is no completion, nor is error mode (60_exceptions R430). -/
theorem Touched.raise_not_completed {ok : Asi → Prop} {k : Trap} (hu : Touched ok s u) (hc : completed i s t)
    (h : raise k u = .next t) : False := by
  obtain ⟨-, hm, hn⟩ := hc
  obtain ⟨-, ⟨he, -, -, rfl⟩ | ⟨-, rfl⟩⟩ := raise_next h
  · exact hn (hu.trapTaken (by rw [← hu.psr]; exact he) _)
  · cases hm

/-- Nor is an instruction that RESET cut (70_reset_and_hazards R481). -/
theorem assertReset_not_completed (hc : completed i s (assertReset u)) : False := by
  obtain ⟨-, hm, -⟩ := hc
  cases hm

theorem completed_agedOrStored (hc : completed i s t) {w : StaleWord} (hw : w ∈ t.stale) : agedOrStored i s w := by
  obtain ⟨hx, hm, hn⟩ := hc
  cases exec_ends hx with
  | trap k _ _ _ he hu => exact absurd (hu.trapTaken he k) hn
  | halt | cut | notReturned => cases hm
  | plain pc npc _ hu hv =>
    exact hv.stale_agedOrStored (by rw [retire_stale, (hu.unstored fun _ h => h).2]) hw
  | flags _ _ hv | multiply _ _ _ _ _ _ hv | jump _ _ _ _ _ _ hv | window _ _ _ _ _ hv =>
    exact hv.stale_agedOrStored rfl hw
  | returned | psr | y | wim | tbr => exact .inr (mem_ageStale hw)

theorem completed_memory (hi : storing i = false) (hc : completed i s t) (p : Nat) : t.mem.get p = s.mem.get p :=
  (exec_ends hc.1).outside fun asi ha => by rw [ha.1] at hi; cases hi

end Completed

/-! ### What a fetch finds -/

theorem mem_staleWords {l : List StaleWord} {p : Nat} {v : Word} :
    v ∈ staleWords l p ↔ ∃ w ∈ l, w.place = p ∧ w.old = v := by
  induction l with
  | nil => simp [staleWords]
  | cons w l ih =>
    unfold staleWords
    split_ifs with h
    · simp [ih, h, eq_comm]
    · simp [ih, h]

theorem staleWords_eq_nil {l : List StaleWord} {p : Nat} : staleWords l p = [] ↔ ∀ w ∈ l, w.place ≠ p := by
  rw [List.eq_nil_iff_forall_not_mem]
  simp only [mem_staleWords]
  exact ⟨fun h w hw hp => h w.old ⟨w, hw, hp, rfl⟩, fun h _ ⟨w, hw, hp, _⟩ => h w hw hp⟩

/-- A fetch gives the word memory holds or a remembered one (20_memory R104). -/
theorem fetchedWord_mem (s : State) (p : Nat) :
    fetchedWord s p = s.mem.word p ∨ fetchedWord s p ∈ staleWords s.stale p := by
  cases hs : staleWords s.stale p with
  | nil => exact .inl (fetchedWord_current hs)
  | cons w ws =>
    have hlt : Config.choiceStale s.free % (ws.length + 2) < (s.mem.word p :: w :: ws).length :=
      Nat.mod_lt _ (Nat.succ_pos _)
    have e : fetchedWord s p = (s.mem.word p :: w :: ws)[Config.choiceStale s.free % (ws.length + 2)] := by
      rw [fetchedWord, hs]; exact List.getD_eq_getElem _ _ hlt
    rw [e]
    exact List.mem_cons.1 (List.getElem_mem hlt)

/-! ### A stored word as the instructions after it complete -/

/-- Of the word at `p` nothing but `old` is remembered, `n` instructions after it was stored over (20_memory R104). -/
def remembersOnly (t : State) (p : Nat) (old : Word) (n : Nat) : Prop :=
  ∀ w ∈ t.stale, w.place = p → w.old = old ∧ 1 ≤ w.left ∧ w.left + n ≤ Config.prefetchDepth

section Fetches
variable {i : Instr} {s t u : State} {p : Nat} {old : Word}

theorem remembersOnly_completed {n : Nat} (h : remembersOnly s p old n) (hi : storing i = false)
    (hc : completed i s t) : remembersOnly t p old (n + 1) := by
  intro w hw hp
  rcases completed_agedOrStored hc hw with ⟨hs, -⟩ | ⟨v, hv, hlt, rfl⟩
  · rw [hi] at hs; cases hs
  · obtain ⟨hold, -, hle⟩ := h v hv hp
    exact ⟨hold, by show 1 ≤ v.left - 1; omega, by show v.left - 1 + (n + 1) ≤ _; omega⟩

theorem remembersOnly_completedAll {is : List Instr} {n : Nat} (h : remembersOnly t p old n)
    (hi : ∀ j ∈ is, storing j = false) (hc : completedAll is t u) :
    remembersOnly u p old (n + is.length) ∧ ∀ q, u.mem.get q = t.mem.get q := by
  induction is generalizing t n with
  | nil => cases hc; exact ⟨h, fun _ => rfl⟩
  | cons i is ih =>
    obtain ⟨v, hv, hc⟩ := hc
    obtain ⟨hi, his⟩ := List.forall_mem_cons.1 hi
    obtain ⟨hu, hmem⟩ := ih (remembersOnly_completed h hi hv) his hc
    rw [List.length_cons, Nat.add_comm is.length, ← Nat.add_assoc]
    exact ⟨hu, fun q => (hmem q).trans (completed_memory hi hv q)⟩

/-- With one word remembered, a fetch gives that one or what memory holds; after four instructions, what memory holds
(20_memory R104). -/
theorem remembersOnly_fetchedWord {n : Nat} (h : remembersOnly u p old n) :
    (fetchedWord u p = old ∨ fetchedWord u p = u.mem.word p) ∧ (4 ≤ n → fetchedWord u p = u.mem.word p) := by
  refine ⟨?_, fun hn => fetchedWord_current (staleWords_eq_nil.2 fun w hw hp => ?_)⟩
  · rcases fetchedWord_mem u p with e | e
    · exact .inr e
    · obtain ⟨w, hw, hp, hv⟩ := mem_staleWords.1 e
      exact .inl (hv.symm.trans (h w hw hp).1)
  · obtain ⟨-, hpos, hle⟩ := h w hw hp
    have hdepth : Config.prefetchDepth = 4 := rfl
    omega

/-- The statement's fetches, from what the store leaves remembered. -/
theorem remembersOnly_fetches {is : List Instr} (h : remembersOnly t p old 0) (hi : ∀ j ∈ is, storing j = false)
    (hc : completedAll is t u) :
    (fetchedWord u p = old ∨ fetchedWord u p = t.mem.word p) ∧
      (4 ≤ is.length → fetchedWord u p = t.mem.word p) := by
  obtain ⟨hu, hmem⟩ := remembersOnly_completedAll h hi hc
  rw [Nat.zero_add] at hu
  have hword : t.mem.word p = u.mem.word p := Memory.word_congr fun q _ _ => (hmem q).symm
  rw [hword]
  exact remembersOnly_fetchedWord hu

end Fetches

/-! ### What each store leaves remembered -/

section Stores
variable {f : IntegerAccesses} {i : Instr} {s t u : State} {rd : RegNum} {asi : Asi} {ea : Word} {p : Nat} {old : Word}

/-- Nothing is remembered of a word that was not, once the instruction's own aging is done (20_memory R104). -/
theorem remembersOnly_aged (hp : staleWords s.stale p = []) (hu : u.stale = ageStale s.stale) :
    remembersOnly u p old 0 := by
  intro w hw hpw
  rw [hu] at hw
  obtain ⟨v, hv, -, rfl⟩ := mem_ageStale hw
  exact absurd hpw (staleWords_eq_nil.1 hp v hv)

/-- A write adds at most the word it changes, as it was (20_memory R85, R104). -/
theorem remembersOnly_answerWrite (a : BusAnswer) {z : Size} {v : Word} (h : remembersOnly u p old 0)
    (hold : wordPlace (placeOf u asi ea) = p → u.mem.word p = old) :
    remembersOnly (answerWrite a u asi ea z v) p old 0 := by
  cases a with
  | memory =>
    intro w hw hp
    rcases List.mem_cons.1 hw with rfl | hw
    · subst hp; exact ⟨hold rfl, by show 1 ≤ Config.prefetchDepth; decide, le_refl _⟩
    · exact h w hw hp
  | _ => exact h

theorem remembersOnly_storeReg {z : Size} (hc : completed i s t) (h : storeReg z asi ea rd s = .next t)
    (hp : staleWords s.stale (wordPlace (placeOf s asi ea)) = []) :
    remembersOnly t (wordPlace (placeOf s asi ea)) (s.mem.word (wordPlace (placeOf s asi ea))) 0 := by
  rcases storeReg_next h with ⟨-, h⟩ | ⟨-, h | rfl | ⟨a, rfl⟩⟩
  · exact (Touched.raise_not_completed (.refl (ok := nowhere)) hc h).elim
  · exact (Touched.raise_not_completed (.answer _ (.refl (ok := nowhere))) hc h).elim
  · exact (assertReset_not_completed hc).elim
  · exact remembersOnly_answerWrite a (remembersOnly_aged hp rfl) fun _ => rfl

theorem remembersOnly_loadStoreByte (hc : completed i s t) (h : loadStoreByte asi ea rd s = .next t)
    (hp : staleWords s.stale (wordPlace (placeOf s asi ea)) = []) :
    remembersOnly t (wordPlace (placeOf s asi ea)) (s.mem.word (wordPlace (placeOf s asi ea))) 0 := by
  rcases loadStoreByte_next h with h | rfl | ⟨v, b, u, hu, h⟩
  · exact (Touched.raise_not_completed (.answer _ (.refl (ok := nowhere))) hc h).elim
  · exact (assertReset_not_completed hc).elim
  have hu' : Touched nowhere s u := by
    rcases hu with rfl | rfl
    · exact .answer _ (.answer _ .refl)
    · exact .reg _ _ _ (.answer _ (.answer _ .refl))
  rcases h with h | rfl | rfl
  · exact (hu'.raise_not_completed hc h).elim
  · exact (assertReset_not_completed hc).elim
  · exact remembersOnly_answerWrite b (remembersOnly_aged hp (by simp)) fun _ => by simp

/-- A doubleword store that completes is two writes of one word each, at a doubleword address (40_data_transfer
R185). -/
theorem completed_storePair {hi lo : Word} (hc : completed i s t) (h : storePair asi ea hi lo s = .next t) :
    alignedTo 8 ea = true ∧ ∃ a b u, u.stale = ageStale s.stale ∧ u.mem = s.mem ∧ u.spaces = s.spaces ∧
      t = answerWrite b (answerWrite a u asi ea .word hi) asi (ea + 4) .word lo := by
  rcases storePair_next h with ⟨-, h⟩ | ⟨ha, h | rfl | ⟨a, b, u, hu, h⟩⟩
  · exact (Touched.raise_not_completed (.refl (ok := nowhere)) hc h).elim
  · exact (Touched.raise_not_completed (.answer _ (.refl (ok := nowhere))) hc h).elim
  · exact (assertReset_not_completed hc).elim
  have hu' : Touched (fun _ => True) s u := by
    rcases hu with rfl | rfl
    · exact .answer _ (.answer _ .refl)
    · exact .store _ _ _ _ _ (.answer _ (.answer _ .refl)) trivial (alignedTo_four ha).1
  rcases h with h | rfl | rfl
  · exact (hu'.raise_not_completed hc h).elim
  · exact (assertReset_not_completed hc).elim
  · let s2 := afterAnswer (pairStoreCycle asi (ea + 4) lo) (afterAnswer (pairStoreCycle asi ea hi) s)
    exact ⟨ha, a, b, advance s2, rfl, rfl, rfl, rfl⟩

/-- The two words of an aligned doubleword are the two words at their places (20_memory R88, R91). -/
theorem wordPlace_double (ha : alignedTo 8 ea = true) :
    wordPlace (placeOf s asi ea) = placeOf s asi ea ∧
      wordPlace (placeOf s asi (ea + 4)) = placeOf s asi ea + 4 := by
  have hplace : placeOf s asi (ea + 4) = placeOf s asi ea + 4 := (placeOf_add ha (by decide) (by decide)).symm
  have hmod : placeOf s asi ea % 4 = 0 := by
    have := alignedTo_eq_true.1 ha
    unfold placeOf
    omega
  rw [hplace]
  unfold wordPlace
  omega

theorem answerWrite_word_outside (a : BusAnswer) (v : Word) {q : Nat}
    (hq : q + 4 ≤ placeOf u asi ea ∨ placeOf u asi ea + 4 ≤ q) :
    (answerWrite a u asi ea .word v).mem.word q = u.mem.word q := by
  cases a with
  | memory =>
    refine Memory.word_congr fun r hr hr' => Memory.get_setBytes_outside _ _ _ ?_
    show r < placeOf u asi ea ∨ placeOf u asi ea + 4 ≤ r
    omega
  | _ => rfl

/-- Each word of a doubleword store is remembered as it was: neither write reaches the other's word. -/
theorem remembersOnly_storePair {hi lo : Word} (hc : completed i s t) (h : storePair asi ea hi lo s = .next t)
    (hp : staleWords s.stale p = []) : remembersOnly t p (s.mem.word p) 0 := by
  obtain ⟨ha, a, b, u, hstale, hmem, hspaces, rfl⟩ := completed_storePair hc h
  have hplace : ∀ x, placeOf u asi x = placeOf s asi x := placeOf_congr hspaces asi
  obtain ⟨hfirst, hsecond⟩ := wordPlace_double (s := s) (asi := asi) ha
  have h1 : remembersOnly (answerWrite a u asi ea .word hi) p (s.mem.word p) 0 :=
    remembersOnly_answerWrite a (remembersOnly_aged hp hstale) fun _ => by rw [hmem]
  refine remembersOnly_answerWrite b h1 fun e => ?_
  rw [placeOf_congr (answerWrite_spaces ..), hplace, hsecond] at e
  rw [answerWrite_word_outside a hi (by rw [hplace]; omega), hmem]

/-- What the five stores of one address form leave remembered of the word at their address. -/
theorem IntegerAccesses.MadeAt.stored_remembersOnly (hf : f.MadeAt s rd asi ea) (hc : completed i s t)
    (hi : i ∈ [f.stb, f.sth, f.st, f.std, f.ldstub]) (hp : staleWords s.stale (wordPlace (placeOf s asi ea)) = []) :
    remembersOnly t (wordPlace (placeOf s asi ea)) (s.mem.word (wordPlace (placeOf s asi ea))) 0 := by
  simp only [List.mem_cons, List.not_mem_nil, or_false] at hi
  rcases hi with rfl | rfl | rfl | rfl | rfl
  · exact remembersOnly_storeReg hc (runsAs_next hf.stb hc.1) hp
  · exact remembersOnly_storeReg hc (runsAs_next hf.sth hc.1) hp
  · exact remembersOnly_storeReg hc (runsAs_next hf.st hc.1) hp
  · exact remembersOnly_storePair hc (unlessOdd_next (runsAs_next hf.std hc.1)) hp
  · exact remembersOnly_loadStoreByte hc (runsAs_next hf.ldstub hc.1) hp

/-- The alternate forms complete in supervisor mode only (40_data_transfer R162; 60_exceptions R452). -/
theorem completed_alternate_supervisor {rs1 rs2 : RegNum} {g : Asi → Word → Answer} (hc : completed i s t)
    (h : exec i s = unlessUnsettled i s (withAlternate rs1 (.reg asi rs2) s g)) : supervisor s := by
  by_contra hs
  have hraise : withAlternate rs1 (.reg asi rs2) s g = raise .privilegedInstruction s := if_neg hs
  rw [hraise] at h
  exact Touched.raise_not_completed (.refl (ok := nowhere)) hc (runsAs_next (runsAs_of_exec h) hc.1)

theorem completed_alternateStore_supervisor {rs1 rs2 : RegNum} (hc : completed i s t)
    (hi : let f := alternateAccesses rd rs1 rs2 asi; i ∈ [f.stb, f.sth, f.st, f.std, f.ldstub]) : supervisor s := by
  simp only [alternateAccesses, List.mem_cons, List.not_mem_nil, or_false] at hi
  rcases hi with rfl | rfl | rfl | rfl | rfl <;> exact completed_alternate_supervisor hc rfl

end Stores

/-- Settles O36: the aging by every way an instruction ends; the fetches by what each store leaves remembered. -/
theorem storedCodeOldOrNew : Obligations.StoredCodeOldOrNew := by
  unfold Obligations.StoredCodeOldOrNew
  refine ⟨fun i s t hc w hw => ?_, ?_⟩
  · rcases completed_agedOrStored hc hw with h | ⟨v, hv, hlt, rfl⟩
    · exact .inl h
    · exact .inr ⟨v, hv, rfl, rfl, (Nat.sub_add_cancel (Nat.le_of_lt hlt)).symm⟩
  intro s t u rd rs1 rs2 o space is hi hall fetches ea ea' alt
  have hplain := plainAccesses_madeAt s rd rs1 o
  have halt := fun hs : supervisor s => alternateAccesses_madeAt hs rd rs1 rs2 space
  refine ⟨fun i hmem hc hp => ?_, fun hc hp => ?_, fun i hmem hc hp => ?_, fun hc hp => ?_⟩
  · exact remembersOnly_fetches (hplain.stored_remembersOnly hc hmem hp) hi hall
  · have hstd := unlessOdd_next (runsAs_next hplain.std hc.1)
    exact remembersOnly_fetches (remembersOnly_storePair hc hstd hp) hi hall
  · have hs := completed_alternateStore_supervisor hc hmem
    exact remembersOnly_fetches ((halt hs).stored_remembersOnly hc hmem hp) hi hall
  · have hs : supervisor s := completed_alternate_supervisor (i := .stda rd rs1 alt) hc rfl
    have hstda := unlessOdd_next (runsAs_next (halt hs).std hc.1)
    exact remembersOnly_fetches (remembersOnly_storePair hc hstda hp) hi hall

end Sys2Proof.Machine
end

section
/-! PROOFS. Encoding and decoding are inverse: what the word of each format decodes to, row by row of the opcode map,
and that the decoder gives the general FPop rows for no opf with a row of its own (30_encoding R121 to R137): O8, O9,
O10. -/

namespace Sys2Proof

/-! ### The formats (30_encoding R121, R137) -/

theorem decode_op0 {w : Word} (h : fieldOp w = 0#2) : decode w = decodeFormat2 w := by rw [decode, h]; rfl

theorem decode_op2 {w : Word} (h : fieldOp w = 2#2) : decode w = decodeArith w := by rw [decode, h]; rfl

theorem decode_op3 {w : Word} (h : fieldOp w = 3#2) : decode w = decodeMemory w := by rw [decode, h]; rfl

theorem decode_fmt1 (disp30 : BitVec 30) : decode (fmt1 disp30) = .instr (.call disp30) := by
  rw [decode, fieldOp_fmt1, fieldDisp30_fmt1]; rfl

theorem decode_fmt2b_bicc (a : Bool) (cond : BitVec 4) (disp22 : BitVec 22) :
    decode (fmt2b a cond 2#3 disp22) = .instr (biccOf cond a disp22) := by
  rw [decode_op0 (fieldOp_fmt2b ..), decodeFormat2, fieldOp2_fmt2b, fieldCond_fmt2b, fieldA_fmt2b, fieldLow22_fmt2b]
  rfl

theorem decode_fmt2b_fbfcc (a : Bool) (cond : BitVec 4) (disp22 : BitVec 22) :
    decode (fmt2b a cond 6#3 disp22) = .instr (fbfccOf cond a disp22) := by
  rw [decode_op0 (fieldOp_fmt2b ..), decodeFormat2, fieldOp2_fmt2b, fieldCond_fmt2b, fieldA_fmt2b, fieldLow22_fmt2b]
  rfl

/-! ### The rows of Format 3 that several instructions share -/

section Format3
variable (rd rs1 : RegNum)

/-- The condition of a Ticc is the low four bits of its rd field (30_encoding R136). -/
theorem decode_fmt3_ticc (o : RegImm) :
    decode (fmt3 2#2 rd 0x3a#6 rs1 (tailRegImm o)) = .instr (ticcOf (rd.extractLsb' 0 4) rs1 o) := by
  rw [decode_op2 (fieldOp_fmt3 ..), decodeArith, fieldOp3_fmt3, fieldCond_fmt3, fieldRs1_fmt3, fieldRegImm_fmt3]; rfl

theorem decode_fmt3_fpop1 (opf : BitVec 9) (rs2 : RegNum) :
    decode (fmt3 2#2 rd 0x34#6 rs1 (opf ++ rs2)) = .instr (fpop1Of opf rd rs1 rs2) := by
  rw [decode_op2 (fieldOp_fmt3 ..), decodeArith, fieldOp3_fmt3, fieldRd_fmt3, fieldRs1_fmt3, fieldOpf_fmt3,
    fieldRs2_fmt3, extract_opf_tail, extract_rs2_tail]; rfl

theorem decode_fmt3_fpop2 (opf : BitVec 9) (rs2 : RegNum) :
    decode (fmt3 2#2 rd 0x35#6 rs1 (opf ++ rs2)) = .instr (fpop2Of opf rd rs1 rs2) := by
  rw [decode_op2 (fieldOp_fmt3 ..), decodeArith, fieldOp3_fmt3, fieldRd_fmt3, fieldRs1_fmt3, fieldOpf_fmt3,
    fieldRs2_fmt3, extract_opf_tail, extract_rs2_tail]; rfl

end Format3

/-! ### The general FPop rows (30_encoding R134; 44_fp_and_other R363) -/

section FPop
variable {opf : BitVec 9} (rd rs1 rs2 : RegNum)

/-- An opf without a row of its own gives the general row. -/
theorem fpop1Of_unnamed (h : opf ∉ namedOpf1) : fpop1Of opf rd rs1 rs2 = .fpop1 rd rs1 opf rs2 := by
  unfold fpop1Of
  split
  case h_18 => rfl
  all_goals exact absurd (by decide) h

theorem fpop2Of_unnamed (h : opf ∉ namedOpf2) : fpop2Of opf rd rs1 rs2 = .fpop2 rd rs1 opf rs2 := by
  unfold fpop2Of
  split
  case h_5 => rfl
  all_goals exact absurd (by decide) h

theorem fpop1_wellFormed : (Instr.fpop1 rd rs1 opf rs2).wellFormed = true ↔ opf ∉ namedOpf1 := by
  simp [Instr.wellFormed]

theorem fpop2_wellFormed : (Instr.fpop2 rd rs1 opf rs2).wellFormed = true ↔ opf ∉ namedOpf2 := by
  simp [Instr.wellFormed]

/-- The general row is reached only past every named one. -/
theorem fpop1Of_wellFormed (opf : BitVec 9) : (fpop1Of opf rd rs1 rs2).wellFormed = true := by
  unfold fpop1Of
  split
  case h_18 => simp_all [fpop1_wellFormed, namedOpf1]
  all_goals rfl

theorem fpop2Of_wellFormed (opf : BitVec 9) : (fpop2Of opf rd rs1 rs2).wellFormed = true := by
  unfold fpop2Of
  split
  case h_5 => simp_all [fpop2_wellFormed, namedOpf2]
  all_goals rfl

end FPop

/-! ### Decoding of every instruction's word -/

/-- Settles O9: by the format of the instruction's word and, in Format 3, by the form of its operand. -/
theorem decodeEncodeAgree : Obligations.DecodeEncodeAgree := by
  unfold Obligations.DecodeEncodeAgree
  intro i hi
  cases i with
  | call => exact decode_fmt1 _
  | unimp | sethi =>
    refine (decode_op0 (fieldOp_fmt2a ..)).trans ?_
    rw [decodeFormat2, fieldOp2_fmt2a, fieldRd_fmt2a, fieldLow22_fmt2a]; rfl
  | ba | bn | bne | be | bg | ble | bge | bl | bgu | bleu | bcc | bcs | bpos | bneg | bvc | bvs =>
    exact decode_fmt2b_bicc ..
  | fba | fbn | fbu | fbg | fbug | fbl | fbul | fblg | fbne | fbe | fbue | fbge | fbuge | fble | fbule | fbo =>
    exact decode_fmt2b_fbfcc ..
  | ta | tn | tne | te | tg | tle | tge | tl | tgu | tleu | tcc | tcs | tpos | tneg | tvc | tvs =>
    exact decode_fmt3_ticc ..
  | fmovs | fnegs | fabs | fadds | faddd | fsubs | fsubd | fmuls | fmuld | fdivs | fdivd | fitos | fstod | fdtos | fitod
  | fstoi | fdtoi => exact decode_fmt3_fpop1 ..
  | fcmps | fcmpd | fcmpes | fcmped => exact decode_fmt3_fpop2 ..
  | fpop1 rd rs1 opf rs2 =>
    have hopf : opf ∉ namedOpf1 := (fpop1_wellFormed rd rs1 rs2).1 hi
    exact (decode_fmt3_fpop1 ..).trans (congrArg _ (fpop1Of_unnamed _ _ _ hopf))
  | fpop2 rd rs1 opf rs2 =>
    have hopf : opf ∉ namedOpf2 := (fpop2_wellFormed rd rs1 rs2).1 hi
    exact (decode_fmt3_fpop2 ..).trans (congrArg _ (fpop2Of_unnamed _ _ _ hopf))
  | rdy | rdpsr | rdwim | rdtbr =>
    refine (decode_op2 (fieldOp_fmt3 ..)).trans ?_
    rw [decodeArith, fieldOp3_fmt3, fieldRd_fmt3]; rfl
  | rett | wry | wrpsr | wrwim | wrtbr | iflush =>
    refine (decode_op2 (fieldOp_fmt3 ..)).trans ?_
    rw [decodeArith, fieldOp3_fmt3, fieldRs1_fmt3, fieldRegImm_fmt3]; rfl
  | add | addcc | addx | addxcc | sub | subcc | subx | subxcc | taddcc | tsubcc | taddcctv | tsubcctv | mulscc | and
  | andcc | andn | andncc | or | orcc | orn | orncc | xor | xorcc | xnor | xnorcc | sll | srl | sra | save | restore
  | jmpl =>
    refine (decode_op2 (fieldOp_fmt3 ..)).trans ?_
    rw [decodeArith, fieldOp3_fmt3, fieldRd_fmt3, fieldRs1_fmt3, fieldRegImm_fmt3]; rfl
  | ld | ldub | lduh | ldd | st | stb | sth | std | ldsb | ldsh | ldstub =>
    refine (decode_op3 (fieldOp_fmt3 ..)).trans ?_
    rw [decodeMemory, fieldOp3_fmt3, fieldRd_fmt3, fieldRs1_fmt3, fieldRegImm_fmt3]; rfl
  | lda | lduba | lduha | ldda | sta | stba | stha | stda | ldsba | ldsha | ldstuba =>
    refine (decode_op3 (fieldOp_fmt3 ..)).trans ?_
    rw [decodeMemory, fieldOp3_fmt3, fieldRd_fmt3, fieldRs1_fmt3, fieldAlt_fmt3]; rfl
  | ldf | ldfsr | lddf | stf | stfsr | stdfq | stdf =>
    refine (decode_op3 (fieldOp_fmt3 ..)).trans ?_
    rw [decodeMemory, fieldOp3_fmt3, fieldRd_fmt3, fieldRs1_fmt3, fieldFp_fmt3]; rfl

/-! ### What the decoder gives is well formed -/

/-- The instruction decoded, if there is one, is well formed. -/
def Decoded.wellFormed : Decoded → Bool
  | .instr i => i.wellFormed
  | _ => true

theorem biccOf_wellFormed (cond : BitVec 4) (a : Bool) (disp22 : BitVec 22) :
    (biccOf cond a disp22).wellFormed = true := by
  unfold biccOf; split <;> rfl

theorem fbfccOf_wellFormed (cond : BitVec 4) (a : Bool) (disp22 : BitVec 22) :
    (fbfccOf cond a disp22).wellFormed = true := by
  unfold fbfccOf; split <;> rfl

theorem ticcOf_wellFormed (cond : BitVec 4) (rs1 : RegNum) (o : RegImm) : (ticcOf cond rs1 o).wellFormed = true := by
  unfold ticcOf; split <;> rfl

section Tables
variable (w : Word)

theorem decodeFormat2_wellFormed : (decodeFormat2 w).wellFormed = true := by
  unfold decodeFormat2
  split
  case h_2 => exact biccOf_wellFormed ..
  case h_4 => exact fbfccOf_wellFormed ..
  all_goals rfl

/-- The rows of more than one instruction, Ticc, FPop1 and FPop2, are the table's 42nd to 44th. -/
theorem decodeArith_wellFormed : (decodeArith w).wellFormed = true := by
  unfold decodeArith
  split
  case h_42 => exact ticcOf_wellFormed ..
  case h_43 => exact fpop1Of_wellFormed ..
  case h_44 => exact fpop2Of_wellFormed ..
  all_goals rfl

theorem decodeMemory_wellFormed : (decodeMemory w).wellFormed = true := by
  unfold decodeMemory
  split <;> rfl

theorem decode_wellFormed : (decode w).wellFormed = true := by
  unfold decode
  split
  · rfl
  · exact decodeFormat2_wellFormed w
  · exact decodeArith_wellFormed w
  · exact decodeMemory_wellFormed w

end Tables

/-- Settles O10: no table gives an ill-formed instruction, and of a well-formed one O9 says the rest. -/
theorem decodedIsWellFormed : Obligations.DecodedIsWellFormed := by
  unfold Obligations.DecodedIsWellFormed
  intro w i hdec
  have hwf : i.wellFormed = true := by simpa [hdec, Decoded.wellFormed] using decode_wellFormed w
  exact ⟨hwf, decodeEncodeAgree i hwf⟩

/-- Settles O8: fixed words, decoded by evaluation. -/
theorem decodeSampleWords : Obligations.DecodeSampleWords := by
  unfold Obligations.DecodeSampleWords
  decide

end Sys2Proof
end

section
/-! PROOFS. The unassigned, SWAP and coprocessor slots (30_encoding R130, R132, R133, R138, R139): whether a word is
one depends on op and bits 24:19 alone, so one word of each such pair shows which are: O11. -/

namespace Sys2Proof

/-- Two outcomes of the decoder are the same, or both are instructions. -/
def Decoded.SameSlot (d e : Decoded) : Prop := d = e ∨ ∃ i j, d = .instr i ∧ e = .instr j

theorem Decoded.SameSlot.eq_iff {d e slot : Decoded} (h : d.SameSlot e) (hs : ∀ i, slot ≠ .instr i) :
    d = slot ↔ e = slot := by
  obtain rfl | ⟨i, j, rfl, rfl⟩ := h
  · rfl
  · exact iff_of_false (hs i).symm (hs j).symm

section Tables
variable {w v : Word}

theorem decodeFormat2_sameSlot (h : fieldOp2 w = fieldOp2 v) : (decodeFormat2 w).SameSlot (decodeFormat2 v) := by
  unfold decodeFormat2
  rw [h]
  split <;> simp [Decoded.SameSlot]

theorem decodeArith_sameSlot (h : fieldOp3 w = fieldOp3 v) : (decodeArith w).SameSlot (decodeArith v) := by
  unfold decodeArith
  rw [h]
  split <;> simp [Decoded.SameSlot]

theorem decodeMemory_sameSlot (h : fieldOp3 w = fieldOp3 v) : (decodeMemory w).SameSlot (decodeMemory v) := by
  unfold decodeMemory
  rw [h]
  split <;> simp [Decoded.SameSlot]

end Tables

/-- The selector of Format 2 is the upper half of bits 24:19 (30_encoding R123, R124). -/
theorem fieldOp2_eq (w : Word) : fieldOp2 w = (fieldOp3 w).extractLsb' 3 3 := by
  ext i hi; simp [fieldOp2, fieldOp3]; grind

/-- The word of an op and bits 24:19, every other bit zero. -/
def slotWord (op : BitVec 2) (op3 : BitVec 6) : Word := fmt3 op 0 op3 0 0

theorem decode_sameSlot (w : Word) : (decode w).SameSlot (decode (slotWord (fieldOp w) (fieldOp3 w))) := by
  have hop : fieldOp (slotWord (fieldOp w) (fieldOp3 w)) = fieldOp w := fieldOp_fmt3 ..
  have hop3 : fieldOp3 w = fieldOp3 (slotWord (fieldOp w) (fieldOp3 w)) := (fieldOp3_fmt3 ..).symm
  generalize slotWord (fieldOp w) (fieldOp3 w) = v at hop hop3
  have hop2 : fieldOp2 w = fieldOp2 v := by rw [fieldOp2_eq, fieldOp2_eq, hop3]
  unfold decode
  rw [hop]
  split
  · exact .inr ⟨_, _, rfl, rfl⟩
  · exact decodeFormat2_sameSlot hop2
  · exact decodeArith_sameSlot hop3
  · exact decodeMemory_sameSlot hop3

theorem unassigned_slots : ∀ (op : BitVec 2) (op3 : BitVec 6), decode (slotWord op op3) = .unassigned ↔
    (op = 0 ∧ op3.extractLsb' 3 3 ∈ [1#3, 3#3, 5#3]) ∨
    (op = 2 ∧ op3 ∈ [0x09#6, 0x0A#6, 0x0B#6, 0x0D#6, 0x0E#6, 0x0F#6, 0x19#6, 0x1A#6, 0x1B#6, 0x1D#6,
      0x1E#6, 0x1F#6, 0x2C#6, 0x2D#6, 0x2E#6, 0x2F#6, 0x3E#6, 0x3F#6]) ∨
    (op = 3 ∧ op3 ∈ [0x08#6, 0x0B#6, 0x0C#6, 0x0E#6, 0x18#6, 0x1B#6, 0x1C#6, 0x1E#6, 0x22#6, 0x28#6,
      0x29#6, 0x2A#6, 0x2B#6, 0x2C#6, 0x2D#6, 0x2E#6, 0x2F#6, 0x38#6, 0x39#6, 0x3A#6, 0x3B#6, 0x3C#6, 0x3D#6, 0x3E#6,
      0x3F#6]) := by decide

theorem swap_slots : ∀ (op : BitVec 2) (op3 : BitVec 6), decode (slotWord op op3) = .swapSlot ↔
    op = 3 ∧ op3 ∈ [0x0F#6, 0x1F#6] := by decide

theorem coprocessor_slots : ∀ (op : BitVec 2) (op3 : BitVec 6), decode (slotWord op op3) = .coprocessorSlot ↔
    (op = 0 ∧ op3.extractLsb' 3 3 = 7) ∨ (op = 2 ∧ op3 ∈ [0x36#6, 0x37#6]) ∨
    (op = 3 ∧ 0x30 ≤ op3.toNat ∧ op3.toNat ≤ 0x37) := by decide

/-- Settles O11: the slots of each op and bits 24:19, and what `runDecoded` does with them. -/
theorem unassignedAndRefusedWords : Obligations.UnassignedAndRefusedWords := by
  unfold Obligations.UnassignedAndRefusedWords
  refine ⟨fun w => ?_, fun w => ?_, fun w => ?_, fun s => ⟨Machine.raises_raise .illegalInstruction s, rfl, rfl⟩⟩
  · rw [(decode_sameSlot w).eq_iff fun _ => Decoded.noConfusion, fieldOp2_eq]
    exact unassigned_slots ..
  · rw [(decode_sameSlot w).eq_iff fun _ => Decoded.noConfusion]
    exact swap_slots ..
  · rw [(decode_sameSlot w).eq_iff fun _ => Decoded.noConfusion, fieldOp2_eq]
    exact coprocessor_slots ..

end Sys2Proof
end

section
/-! PROOFS. What the integer loads and stores do when plain memory answers (40_data_transfer R162 to R191; 20_memory
R84, R85, R88; 50_bus_signals R395, R396): O28 to O32, O34. -/

namespace Sys2Proof.Machine

/-! ### The bytes of a datum (20_memory R88; 40_data_transfer R163) -/

section Bytes
variable {s : State} {asi : Asi} {ea : Word}

theorem byteAt_zero : byteAt s asi (ea + 0) = byteAt s asi ea :=
  congrArg (byteAt s asi) (BitVec.add_zero ea)

/-- The places of an aligned datum are those of the addresses that follow its own (20_memory R91). -/
theorem get_placeOf_add {n k : Nat} (ha : ea.toNat % n = 0) (hn : n ∣ 2 ^ 32) (hk : k < n) :
    s.mem.get (placeOf s asi ea + k) = byteAt s asi (ea + BitVec.ofNat 32 k) := by
  rw [placeOf_add (alignedTo_eq_true.2 ha) hn hk, byteAt]

theorem half_placeOf (ha : ea.toNat % 2 = 0) :
    s.mem.half (placeOf s asi ea) = byteAt s asi (ea + 0) ++ byteAt s asi (ea + 1) := by
  rw [Memory.half, get_placeOf_add ha (by decide) (by decide), byteAt_zero]; rfl

theorem word_placeOf (ha : ea.toNat % 4 = 0) :
    s.mem.word (placeOf s asi ea) =
      byteAt s asi (ea + 0) ++ byteAt s asi (ea + 1) ++ byteAt s asi (ea + 2) ++ byteAt s asi (ea + 3) := by
  rw [Memory.word, get_placeOf_add ha (by decide) (by decide), get_placeOf_add ha (by decide) (by decide),
    get_placeOf_add ha (by decide) (by decide), byteAt_zero]; rfl

/-- The second word of an aligned doubleword, by the bytes that follow the address of the first. -/
theorem word_placeOf_second (ha : ea.toNat % 8 = 0) :
    s.mem.word (placeOf s asi (ea + 4)) =
      byteAt s asi (ea + 4) ++ byteAt s asi (ea + 5) ++ byteAt s asi (ea + 6) ++ byteAt s asi (ea + 7) := by
  obtain ⟨-, h4⟩ := alignedTo_four (alignedTo_eq_true.2 ha)
  rw [word_placeOf (alignedTo_eq_true.1 h4)]
  simp only [BitVec.add_assoc]
  rfl

theorem signByte_zeroExtend (b : Byte) : signByte (b.zeroExtend 32) = BitVec.ofInt 32 b.toInt := by
  have h : (b.zeroExtend 32).extractLsb' 0 8 = b := BitVec.eq_of_toNat_eq (by simp; omega)
  rw [signByte, h]; rfl

theorem signHalf_zeroExtend (b : BitVec 16) : signHalf (b.zeroExtend 32) = BitVec.ofInt 32 b.toInt := by
  have h : (b.zeroExtend 32).extractLsb' 0 16 = b := BitVec.eq_of_toNat_eq (by simp; omega)
  rw [signHalf, h]; rfl

theorem zeroExtend_half (b : BitVec 16) : b.zeroExtend 32 = BitVec.ofNat 32 b.toNat :=
  BitVec.eq_of_toNat_eq (by simp)

end Bytes

/-! ### A completed access -/

/-- What every completed access leaves: the next instruction in order, the PSR and the special registers as they were,
and these transactions. Registers and memory are for each access to say. -/
structure Completes (s t : State) (cycles : List BusCycle) : Prop where
  goes : goesOn s t
  psr : t.psr = s.psr
  special : sameSpecial s t
  cycles : madeCycles s t cycles

section Completes
variable {s t : State} {cycles : List BusCycle}

theorem completes_advance (s : State) (cycles : List BusCycle) : Completes s (advance (afterCycles s cycles)) cycles :=
  ⟨⟨rfl, rfl⟩, rfl, ⟨rfl, rfl, rfl, rfl, rfl, rfl, rfl, rfl, rfl, rfl, rfl, rfl⟩, rfl, rfl⟩

theorem readHome_advance_afterCycles (s : State) (cycles : List BusCycle) (h : RegHome) :
    readHome (advance (afterCycles s cycles)) h = readHome s h := readHome_congr rfl rfl h

theorem Completes.writeWin (h : Completes s t cycles) (w : WindowNum) (n : RegNum) (v : Word) :
    Completes s (writeWin t w n v) cycles := by
  obtain ⟨hgoes, hpsr, hspecial, hcycles⟩ := h
  exact ⟨by simpa [goesOn] using hgoes, by simpa using hpsr, by simpa [sameSpecial] using hspecial,
    by simpa [madeCycles] using hcycles⟩

theorem Completes.writePlace (h : Completes s t cycles) (p : Nat) (z : Size) (v : Word) :
    Completes s (writePlace t p z v) cycles := ⟨h.goes, h.psr, h.special, h.cycles⟩

end Completes

/-! ### Stored bytes (20_memory R85) -/

/-- Writing bytes and then more bytes right above them is one write. -/
theorem Memory.setBytes_append (m : Memory) (p : Nat) (as bs : List Byte) :
    m.setBytes p (as ++ bs) = (m.setBytes p as).setBytes (p + as.length) bs := by
  induction as generalizing m p with
  | nil => rfl
  | cons a as ih =>
    rw [List.cons_append, Memory.setBytes, ih, Memory.setBytes, List.length_cons, Nat.add_comm as.length, Nat.add_assoc]

theorem storesBytes_setBytes {s t : State} {p : Nat} {bytes : List Byte} (hwf : s.mem.wf = true)
    (h : t.mem = s.mem.setBytes p bytes) : storesBytes s t p bytes := by
  rw [storesBytes, sameOutside, h]
  exact ⟨fun _ hk => Memory.get_setBytes_inside hwf p bytes hk, fun _ hq => Memory.get_setBytes_outside _ p bytes hq⟩

/-! ### An odd rd names no pair (40_data_transfer R166) -/

theorem oddPair_odd {rd : RegNum} (h : rd.toNat % 2 = 1) : oddPair rd = true := by
  simp only [oddPair, BitVec.getLsbD, Nat.testBit_zero, h]; rfl

theorem unlessOdd_odd {rd : RegNum} {act : Answer} (h : rd.toNat % 2 = 1) :
    unlessOdd rd act = .refused .oddDoublewordRegister := if_pos (oddPair_odd h)

/-! ### Each access, answered by plain memory -/

section Accesses
variable {f : IntegerAccesses} {s : State} {i : Instr} {rd : RegNum} {asi : Asi} {ea : Word}

/-- In one window different numbers name different registers (10_state R24). -/
theorem home_ne_of_ne {w : WindowNum} {m n : RegNum} (h : m ≠ n) : home w m ≠ home w n := by
  rw [Ne, windowOverlap]
  simp [h]

/-- A load writes the datum at its address, extended, to `r[rd]`, in one read (R170 to R174). -/
theorem loads_of_loadReg {z : Size} {ext : Word → Word} (hm : memoryAnswers s 1)
    (h : runsAs s i (loadReg z ext asi ea rd s)) (ha : ea.toNat % z.bytes = 0) :
    loads s i rd (ext (readPlace s.mem (placeOf s asi ea) z)) [loadCycle asi ea z] := by
  rw [loadReg_memory hm (alignedTo_eq_true.2 ha), afterAnswer_eq] at h
  intro hready
  obtain ⟨hgoes, hpsr, hspecial, hcycles⟩ := (completes_advance s [loadCycle asi ea z]).writeWin (curWindow s) rd
    (ext (readPlace s.mem (placeOf s asi ea) z))
  exact ⟨_, h hready, hgoes, ⟨onlyRegister_writeWin (readHome_advance_afterCycles s _) _ _ _, hpsr, hspecial,
    fun p => by rw [writeWin_mem]; rfl⟩, hcycles⟩

/-- A store writes the low-order bytes of `r[rd]` at its address, in one write (R182 to R184). -/
theorem stores_of_storeReg {z : Size} (hwf : s.mem.wf = true) (hm : memoryAnswers s 1)
    (h : runsAs s i (storeReg z asi ea rd s)) (ha : ea.toNat % z.bytes = 0) :
    stores s s i (placeOf s asi ea) (storeBytes (readReg s rd) z) [storeCycle asi ea z (readReg s rd)] := by
  rw [storeReg_memory hm (alignedTo_eq_true.2 ha), afterAnswer_eq] at h
  intro hready
  obtain ⟨hgoes, hpsr, hspecial, hcycles⟩ := (completes_advance s [storeCycle asi ea z (readReg s rd)]).writePlace
    (placeOf s asi ea) z (readReg s rd)
  exact ⟨_, h hready, hgoes, fun g => readHome_congr rfl rfl g, hpsr, hspecial, storesBytes_setBytes hwf rfl, hcycles⟩

/-- A doubleword store writes its two words, which lie side by side, in two writes (R185). -/
theorem stores_of_storePair {hi lo : Word} (hwf : s.mem.wf = true) (hm : memoryAnswers s 2)
    (h : runsAs s i (storePair asi ea hi lo s)) (ha : ea.toNat % 8 = 0) :
    stores s s i (placeOf s asi ea) (bytesOfWord hi ++ bytesOfWord lo)
      [pairStoreCycle asi ea hi, pairStoreCycle asi (ea + 4) lo] := by
  have ha8 : alignedTo 8 ea = true := alignedTo_eq_true.2 ha
  have hplace : placeOf s asi (ea + 4) = placeOf s asi ea + 4 := (placeOf_add ha8 (by decide) (by decide)).symm
  rw [storePair_memory hm ha8, afterAnswer_two, hplace] at h
  intro hready
  obtain ⟨hgoes, hpsr, hspecial, hcycles⟩ := ((completes_advance s
    [pairStoreCycle asi ea hi, pairStoreCycle asi (ea + 4) lo]).writePlace (placeOf s asi ea) .word hi).writePlace
    (placeOf s asi ea + 4) .word lo
  exact ⟨_, h hready, hgoes, fun g => readHome_congr rfl rfl g, hpsr, hspecial,
    storesBytes_setBytes hwf (Memory.setBytes_append ..).symm, hcycles⟩

/-- The instruction, unless it uses what is unsettled, reads the doubleword at `ea` into `r[rd]`, unless rd = 0, and
`r[rd + 1]`, and changes no other register and no memory (R175). -/
def loadsPair (s : State) (i : Instr) (rd : RegNum) (hi lo : Word) (cycles : List BusCycle) : Prop :=
  ready i s → ∃ t, exec i s = .next t ∧ goesOn s t ∧ t.psr = s.psr ∧ sameSpecial s t ∧ sameMemory s t ∧
    madeCycles s t cycles ∧ (rd ≠ 0 → readWin t (curWindow s) rd = hi) ∧ readWin t (curWindow s) (rd + 1) = lo ∧
    ∀ h, h ≠ destination s rd → h ≠ destination s (rd + 1) → readHome t h = readHome s h

theorem loadsPair_of_loadPair (hm : memoryAnswers s 2) (hrd : rd.toNat % 2 = 0)
    (h : runsAs s i (loadPair asi ea rd s)) (ha : ea.toNat % 8 = 0) :
    loadsPair s i rd (s.mem.word (placeOf s asi ea)) (s.mem.word (placeOf s asi (ea + 4)))
      [pairLoadCycle false asi ea, pairLoadCycle true asi (ea + 4)] := by
  rw [loadPair_memory hm (alignedTo_eq_true.2 ha), afterAnswer_two] at h
  intro hready
  obtain ⟨hgoes, hpsr, hspecial, hcycles⟩ := ((completes_advance s
    [pairLoadCycle false asi ea, pairLoadCycle true asi (ea + 4)]).writeWin (curWindow s) rd
    (s.mem.word (placeOf s asi ea))).writeWin (curWindow s) (rd + 1) (s.mem.word (placeOf s asi (ea + 4)))
  have hne : rd ≠ rd + 1 := by bv_omega
  have hlo : rd + 1 ≠ 0 := by bv_omega
  refine ⟨_, h hready, hgoes, hpsr, hspecial, fun p => by simp only [writeWin_mem]; rfl, hcycles, fun h0 => ?_, ?_,
    fun g hg hg' => ?_⟩
  · rw [readWin, readHome_writeWin_ne _ _ _ _ (home_ne_of_ne hne)]
    exact readWin_writeWin_eq _ _ _ (home_eq_zero.not.2 h0)
  · exact readWin_writeWin_eq _ _ _ (home_eq_zero.not.2 hlo)
  · rw [readHome_writeWin_ne _ _ _ _ hg', readHome_writeWin_ne _ _ _ _ hg, readHome_advance_afterCycles]

/-- The instruction, unless it uses what is unsettled, moves `old` to `r[rd]` and all ones to the byte at `ea`, in a
locked read and a locked write (R190). -/
def swapsByte (s : State) (i : Instr) (rd : RegNum) (asi : Asi) (ea : Word) : Prop :=
  ready i s → ∃ t, exec i s = .next t ∧ goesOn s t ∧ t.psr = s.psr ∧ sameSpecial s t ∧
    onlyRegister s t (destination s rd) (BitVec.ofNat 32 (byteAt s asi ea).toNat) ∧
    storesBytes s t (placeOf s asi ea) [0xFF] ∧ madeCycles s t [atomicReadCycle asi ea, atomicWriteCycle asi ea]

theorem swapsByte_of_loadStoreByte (hwf : s.mem.wf = true) (hm : memoryAnswers s 2)
    (h : runsAs s i (loadStoreByte asi ea rd s)) : swapsByte s i rd asi ea := by
  rw [loadStoreByte_memory hm, afterAnswer_two, zeroExtend_byte, answerWrite, placeOf_congr (writeWin_spaces ..)] at h
  intro hready
  obtain ⟨hgoes, hpsr, hspecial, hcycles⟩ := ((completes_advance s
    [atomicReadCycle asi ea, atomicWriteCycle asi ea]).writeWin (curWindow s) rd
    (BitVec.ofNat 32 (byteAt s asi ea).toNat)).writePlace (placeOf s asi ea) .byte 0xFF
  refine ⟨_, h hready, hgoes, hpsr, hspecial, ?_, storesBytes_setBytes hwf ?_, hcycles⟩
  · exact onlyRegister_congr (onlyRegister_writeWin (readHome_advance_afterCycles s _) _ _ _) fun g =>
      readHome_writePlace ..
  · rw [writePlace_mem, writeWin_mem]; rfl

/-! ### The loads and stores of one address form, as the statements write them -/

theorem IntegerAccesses.MadeAt.loads_byte (hf : f.MadeAt s rd asi ea) (hm : memoryAnswers s 1) :
    let d : Byte := byteAt s asi (ea + 0)
    loads s f.ldsb rd (BitVec.ofInt 32 d.toInt) [⟨.read, asi, ea, .byte, false, false⟩] ∧
      loads s f.ldub rd (BitVec.ofNat 32 d.toNat) [⟨.read, asi, ea, .byte, false, false⟩] := by
  intro d
  have hd : s.mem.get (placeOf s asi ea) = d := byteAt_zero.symm
  rw [← hd, ← signByte_zeroExtend, ← zeroExtend_byte]
  exact ⟨loads_of_loadReg hm hf.ldsb (Nat.mod_one _), loads_of_loadReg hm hf.ldub (Nat.mod_one _)⟩

theorem IntegerAccesses.MadeAt.loads_half (hf : f.MadeAt s rd asi ea) (hm : memoryAnswers s 1)
    (ha : ea.toNat % 2 = 0) :
    let d : BitVec 16 := byteAt s asi (ea + 0) ++ byteAt s asi (ea + 1)
    loads s f.ldsh rd (BitVec.ofInt 32 d.toInt) [⟨.read, asi, ea, .half, false, false⟩] ∧
      loads s f.lduh rd (BitVec.ofNat 32 d.toNat) [⟨.read, asi, ea, .half, false, false⟩] := by
  intro d
  have hd : s.mem.half (placeOf s asi ea) = d := half_placeOf ha
  rw [← hd, ← signHalf_zeroExtend, ← zeroExtend_half]
  exact ⟨loads_of_loadReg hm hf.ldsh ha, loads_of_loadReg hm hf.lduh ha⟩

theorem IntegerAccesses.MadeAt.loads_word (hf : f.MadeAt s rd asi ea) (hm : memoryAnswers s 1)
    (ha : ea.toNat % 4 = 0) :
    loads s f.ld rd
      (byteAt s asi (ea + 0) ++ byteAt s asi (ea + 1) ++ byteAt s asi (ea + 2) ++ byteAt s asi (ea + 3))
      [⟨.read, asi, ea, .word, false, false⟩] := by
  rw [← word_placeOf ha]
  exact loads_of_loadReg hm hf.ld ha

theorem IntegerAccesses.MadeAt.loads_double (hf : f.MadeAt s rd asi ea) (hm : memoryAnswers s 2)
    (hrd : rd.toNat % 2 = 0) (ha : ea.toNat % 8 = 0) :
    loadsPair s f.ldd rd
      (byteAt s asi (ea + 0) ++ byteAt s asi (ea + 1) ++ byteAt s asi (ea + 2) ++ byteAt s asi (ea + 3))
      (byteAt s asi (ea + 4) ++ byteAt s asi (ea + 5) ++ byteAt s asi (ea + 6) ++ byteAt s asi (ea + 7))
      [⟨.read, asi, ea, .double, false, false⟩, ⟨.read, asi, ea + 4, .double, true, false⟩] := by
  have hldd := hf.ldd
  rw [unlessOdd_even hrd] at hldd
  have ha4 : ea.toNat % 4 = 0 := by omega
  rw [← word_placeOf ha4, ← word_placeOf_second ha]
  exact loadsPair_of_loadPair hm hrd hldd ha

theorem IntegerAccesses.MadeAt.stores_byte (hf : f.MadeAt s rd asi ea) (hwf : s.mem.wf = true)
    (hm : memoryAnswers s 1) :
    let v := readReg s rd
    stores s s f.stb (placeOf s asi ea) [v.extractLsb' 0 8]
      [⟨.write (BitVec.ofNat 32 (v.toNat % 2 ^ 8)), asi, ea, .byte, true, false⟩] := by
  have hstb := stores_of_storeReg hwf hm hf.stb (Nat.mod_one _)
  rw [storeCycle, Size.datum_byte] at hstb
  exact hstb

theorem IntegerAccesses.MadeAt.stores_half (hf : f.MadeAt s rd asi ea) (hwf : s.mem.wf = true)
    (hm : memoryAnswers s 1) (ha : ea.toNat % 2 = 0) :
    let v := readReg s rd
    stores s s f.sth (placeOf s asi ea) [v.extractLsb' 8 8, v.extractLsb' 0 8]
      [⟨.write (BitVec.ofNat 32 (v.toNat % 2 ^ 16)), asi, ea, .half, true, false⟩] := by
  have hsth := stores_of_storeReg hwf hm hf.sth ha
  rw [storeCycle, Size.datum_half] at hsth
  exact hsth

theorem IntegerAccesses.MadeAt.stores_word (hf : f.MadeAt s rd asi ea) (hwf : s.mem.wf = true)
    (hm : memoryAnswers s 1) (ha : ea.toNat % 4 = 0) :
    let v := readReg s rd
    stores s s f.st (placeOf s asi ea)
      [v.extractLsb' 24 8, v.extractLsb' 16 8, v.extractLsb' 8 8, v.extractLsb' 0 8]
      [⟨.write (BitVec.ofNat 32 v.toNat), asi, ea, .word, true, false⟩] := by
  have hst := stores_of_storeReg hwf hm hf.st ha
  rw [storeCycle, Size.datum_word] at hst
  exact hst

theorem IntegerAccesses.MadeAt.stores_double (hf : f.MadeAt s rd asi ea) (hwf : s.mem.wf = true)
    (hm : memoryAnswers s 2) (hrd : rd.toNat % 2 = 0) (ha : ea.toNat % 8 = 0) :
    let hi := readReg s rd
    let lo := readReg s (rd + 1)
    stores s s f.std (placeOf s asi ea) (bytesOfWord hi ++ bytesOfWord lo)
      [⟨.write hi, asi, ea, .double, true, false⟩, ⟨.write lo, asi, ea + 4, .double, true, false⟩] := by
  have hstd := hf.std
  rw [unlessOdd_even hrd] at hstd
  exact stores_of_storePair hwf hm hstd ha

theorem IntegerAccesses.MadeAt.odd_refused (hf : f.MadeAt s rd asi ea) (h : rd.toNat % 2 = 1) :
    ∀ i ∈ [f.ldd, f.std], ready i s → exec i s = .refused .oddDoublewordRegister :=
  forall_mem_two (fun hr => (hf.ldd hr).trans (unlessOdd_odd h)) (fun hr => (hf.std hr).trans (unlessOdd_odd h))

end Accesses

/-- Settles O34: both forms of both instructions stand behind the same check of rd. -/
theorem oddPairRefused : Obligations.OddPairRefused := by
  unfold Obligations.OddPairRefused
  intro s rd rs1 rs2 o asi hrd
  exact ⟨(plainAccesses_madeAt s rd rs1 o).odd_refused hrd,
    fun hs => (alternateAccesses_madeAt hs rd rs1 rs2 asi).odd_refused hrd⟩

/-- Settles O28: the five loads of each address form, by the width of their datum. -/
theorem loadResults : Obligations.LoadResults := by
  unfold Obligations.LoadResults
  intro s rd rs1 rs2 o asi hm reads
  have hform : ∀ {f : IntegerAccesses} {asi : Asi} {ea : Word}, f.MadeAt s rd asi ea →
      reads f.ldsb f.ldub f.ldsh f.lduh f.ld asi ea := fun hf =>
    ⟨(hf.loads_byte hm).1, (hf.loads_byte hm).2, hf.loads_half hm, hf.loads_word hm⟩
  exact ⟨hform (plainAccesses_madeAt s rd rs1 o), fun hs => hform (alternateAccesses_madeAt hs rd rs1 rs2 asi)⟩

/-- Settles O29: the doubleword load of each address form, past the check of rd. -/
theorem doubleLoadResults : Obligations.DoubleLoadResults := by
  unfold Obligations.DoubleLoadResults
  intro s rd rs1 rs2 o asi hm hrd pair
  exact ⟨(plainAccesses_madeAt s rd rs1 o).loads_double hm hrd,
    fun hs => (alternateAccesses_madeAt hs rd rs1 rs2 asi).loads_double hm hrd⟩

/-- Settles O30: the three stores of each address form, by the width of their datum. -/
theorem storeResults : Obligations.StoreResults := by
  unfold Obligations.StoreResults
  intro s rd rs1 rs2 o asi hwf hm v writes
  have hform : ∀ {f : IntegerAccesses} {asi : Asi} {ea : Word}, f.MadeAt s rd asi ea →
      writes f.stb f.sth f.st asi ea := fun hf =>
    ⟨hf.stores_byte hwf hm, hf.stores_half hwf hm, hf.stores_word hwf hm⟩
  exact ⟨hform (plainAccesses_madeAt s rd rs1 o), fun hs => hform (alternateAccesses_madeAt hs rd rs1 rs2 asi)⟩

/-- Settles O31: the doubleword store of each address form, past the check of rd. -/
theorem doubleStoreResults : Obligations.DoubleStoreResults := by
  unfold Obligations.DoubleStoreResults
  intro s rd rs1 rs2 o asi hwf hm hrd hi lo bytes writes ea ea'
  exact ⟨(plainAccesses_madeAt s rd rs1 o).stores_double hwf hm hrd,
    fun hs => (alternateAccesses_madeAt hs rd rs1 rs2 asi).stores_double hwf hm hrd⟩

/-- Settles O32: the atomic load-store of each address form; a byte has no alignment to check. -/
theorem atomicLoadStore : Obligations.AtomicLoadStore := by
  unfold Obligations.AtomicLoadStore
  intro s rd rs1 rs2 o asi hwf hm swaps
  exact ⟨swapsByte_of_loadStoreByte hwf hm (plainAccesses_madeAt s rd rs1 o).ldstub,
    fun hs => swapsByte_of_loadStoreByte hwf hm (alternateAccesses_madeAt hs rd rs1 rs2 asi).ldstub⟩

end Sys2Proof.Machine
end

section
/-! PROOFS. The results and the flags of the arithmetic, shift and multiply step operations, as the exact integers give
them (41_arith_logic_shift R222 to R224, R240, R250, R265 to R268): the layer of O18, O19 and O22 to O25. -/

namespace Sys2Proof.Machine

/-! ### Words as integers -/

/-- The upper part of two words put side by side weighs `2 ^ n`. -/
theorem toNat_append_add {m n : Nat} (x : BitVec m) (y : BitVec n) :
    (x ++ y).toNat = x.toNat * 2 ^ n + y.toNat := by
  rw [BitVec.toNat_append, ← Nat.shiftLeft_add_eq_or_of_lt y.isLt, Nat.shiftLeft_eq]

/-- The sign of a word, by its top bit (R222). -/
theorem toInt_neg_eq_getLsbD (r : Word) : decide (r.toInt < 0) = r.getLsbD 31 :=
  BitVec.msb_eq_toInt.symm.trans (BitVec.msb_eq_getLsbD_last r)

theorem toNat_eq_zero (r : Word) : decide (r.toNat = 0) = decide (r = 0) :=
  decide_eq_decide.2 (BitVec.toNat_inj (x := r) (y := 0))

/-- The low bit of a word is its parity. -/
theorem getLsbD_zero_iff (x : Word) : x.getLsbD 0 = true ↔ x.toNat % 2 = 1 := by
  rw [BitVec.getLsbD, Nat.testBit_zero, decide_eq_true_iff]

/-- The difference of the signed values modulo 2^32 is the difference of the words (R223). -/
theorem ofInt_sub_toInt (a b : Word) : BitVec.ofInt 32 (a.toInt - b.toInt) = a - b := by
  rw [Int.sub_eq_add_neg, BitVec.ofInt_add, BitVec.ofInt_neg, BitVec.ofInt_toInt, BitVec.ofInt_toInt,
    BitVec.sub_eq_add_neg]

theorem ofInt_sub_toInt_carry (a b : Word) (c : Nat) :
    BitVec.ofInt 32 (a.toInt - b.toInt - c) = a - b - BitVec.ofNat 32 c := by
  rw [Int.sub_eq_add_neg, BitVec.ofInt_add, ofInt_sub_toInt, BitVec.ofInt_neg, BitVec.ofInt_natCast,
    BitVec.sub_eq_add_neg (a - b)]

theorem ofNat_add_toNat (a b : Word) : BitVec.ofNat 32 (a.toNat + b.toNat) = a + b := by
  rw [BitVec.ofNat_add, BitVec.ofNat_toNat, BitVec.ofNat_toNat, BitVec.setWidth_eq, BitVec.setWidth_eq]

/-! ### Sums and differences (R222, R223) -/

theorem carryIn_le_one (c : Bool) : carryIn c ≤ 1 := by cases c <;> decide

/-- Signed overflow of a sum: the operands agree in sign and the result does not (R222). -/
theorem addFlags_overflow (a b : Word) (cin : Bool) :
    (addFlags a b cin).2.v =
      decide (a.toInt + b.toInt + carryIn cin < -2 ^ 31 ∨ 2 ^ 31 ≤ a.toInt + b.toInt + carryIn cin) := by
  have hc := carryIn_le_one cin
  have ha := a.isLt
  have hb := b.isLt
  rw [Bool.eq_iff_iff]
  simp only [addFlags, BitVec.msb_eq_decide, BitVec.toInt_eq_toNat_cond, BitVec.toNat_ofNat, Bool.and_eq_true,
    beq_iff_eq, bne_iff_ne, ne_eq, decide_eq_decide, decide_eq_true_iff]
  omega

/-- Signed overflow of a difference: the operands differ in sign and the result has not that of the first (R223). -/
theorem subFlags_overflow (a b : Word) (cin : Bool) :
    (subFlags a b cin).2.v =
      decide (a.toInt - b.toInt - carryIn cin < -2 ^ 31 ∨ 2 ^ 31 ≤ a.toInt - b.toInt - carryIn cin) := by
  have hc := carryIn_le_one cin
  have ha := a.isLt
  have hb := b.isLt
  rw [Bool.eq_iff_iff]
  simp only [subFlags, BitVec.msb_eq_decide, BitVec.toInt_eq_toNat_cond, BitVec.toNat_sub, BitVec.toNat_ofNat,
    Bool.and_eq_true, bne_iff_ne, ne_eq, decide_eq_decide, decide_eq_true_iff]
  omega

/-- Addition with its flags, from the exact sum (R222). -/
theorem addFlags_eq (a b : Word) (cin : Bool) :
    let r : Word := BitVec.ofNat 32 (a.toNat + b.toNat + carryIn cin)
    let exact : Int := a.toInt + b.toInt + carryIn cin
    addFlags a b cin = (r,
      { n := r.getLsbD 31
        z := decide (r = 0)
        v := decide (exact < -2 ^ 31 ∨ 2 ^ 31 ≤ exact)
        c := decide (2 ^ 32 ≤ a.toNat + b.toNat + carryIn cin) }) := by
  intro r exact
  rw [← addFlags_overflow, ← BitVec.msb_eq_getLsbD_last r]
  rfl

/-- Subtraction with its flags, from the exact difference (R223). -/
theorem subFlags_eq (a b : Word) (cin : Bool) :
    let r : Word := BitVec.ofInt 32 (a.toInt - b.toInt - carryIn cin)
    let exact : Int := a.toInt - b.toInt - carryIn cin
    subFlags a b cin = (r,
      { n := r.getLsbD 31
        z := decide (r = 0)
        v := decide (exact < -2 ^ 31 ∨ 2 ^ 31 ≤ exact)
        c := decide (a.toNat < b.toNat + carryIn cin) }) := by
  intro r exact
  rw [← subFlags_overflow, ← BitVec.msb_eq_getLsbD_last r, show r = _ from ofInt_sub_toInt_carry a b _]
  rfl

/-! ### Tagged operations (R240 to R242) -/

theorem tagged_eq (a : Word) : tagged a = decide (a.toNat % 4 ≠ 0) := by
  rw [tagged, Bool.eq_iff_iff, bne_iff_ne, decide_eq_true_iff, Ne, BitVec.toNat_eq, BitVec.extractLsb'_toNat,
    Nat.shiftRight_zero]
  rfl

/-- A nonzero tag of either operand, or signed overflow (R240). -/
theorem tagOverflow_eq (a b : Word) (p : Prop) [Decidable p] :
    tagOverflow a b (decide p) = decide ((a.toNat % 4 ≠ 0 ∨ b.toNat % 4 ≠ 0) ∨ p) := by
  rw [tagOverflow, tagged_eq, tagged_eq, Bool.decide_or, Bool.decide_or]

/-- Tagged addition with its flags (R241). -/
theorem taddFlags_eq (a b : Word) :
    let exact : Int := a.toInt + b.toInt
    taddFlags a b = (a + b,
      { n := (a + b).getLsbD 31
        z := decide (a + b = 0)
        v := decide ((a.toNat % 4 ≠ 0 ∨ b.toNat % 4 ≠ 0) ∨ exact < -2 ^ 31 ∨ 2 ^ 31 ≤ exact)
        c := decide (2 ^ 32 ≤ a.toNat + b.toNat) }) := by
  intro exact
  have hcarry : carryIn false = 0 := rfl
  simp only [taddFlags, addFlags_eq, tagOverflow_eq, hcarry, Nat.add_zero, Int.natCast_zero, Int.add_zero,
    ofNat_add_toNat, exact]

/-- Tagged subtraction with its flags (R242). -/
theorem tsubFlags_eq (a b : Word) :
    let exact : Int := a.toInt - b.toInt
    tsubFlags a b = (a - b,
      { n := (a - b).getLsbD 31
        z := decide (a = b)
        v := decide ((a.toNat % 4 ≠ 0 ∨ b.toNat % 4 ≠ 0) ∨ exact < -2 ^ 31 ∨ 2 ^ 31 ≤ exact)
        c := decide (a.toNat < b.toNat) }) := by
  intro exact
  have hcarry : carryIn false = 0 := rfl
  have hzero : (a - b = 0) = (a = b) := propext sub_eq_zero
  simp only [tsubFlags, subFlags_eq, tagOverflow_eq, hcarry, Nat.add_zero, Int.natCast_zero, Int.sub_zero,
    ofInt_sub_toInt, hzero, exact]

/-! ### The multiply step (R250) -/

/-- Step 1: half the partial product, with n xor v above it. -/
theorem toNat_mulStepShift (icc : Icc) (a : Word) :
    (mulStepShift icc a).toNat = a.toNat / 2 + if icc.n = icc.v then 0 else 2 ^ 31 := by
  have ha := a.isLt
  rw [mulStepShift, toNat_append_add, BitVec.extractLsb'_toNat, Nat.shiftRight_eq_div_pow]
  cases icc.n <;> cases icc.v <;> simp <;> omega

/-- Step 4: half of Y, with the bit shifted out of the partial product above it. -/
theorem mulStepY_eq (a y : Word) :
    mulStepY a y = BitVec.ofNat 32 (y.toNat / 2 + a.toNat % 2 * 2 ^ 31) := by
  have hy := y.isLt
  refine BitVec.eq_of_toNat_eq ?_
  rw [mulStepY, toNat_append_add, BitVec.extractLsb'_toNat, BitVec.extractLsb'_toNat, Nat.shiftRight_zero,
    Nat.shiftRight_eq_div_pow, BitVec.toNat_ofNat]
  omega

/-! ### Shifts and SETHI (R265 to R268, R275) -/

theorem shiftCount_eq (v : Word) : shiftCount v = v.toNat % 32 := by
  rw [shiftCount, BitVec.extractLsb'_toNat, Nat.shiftRight_zero]

theorem shiftLeft_eq_ofNat (a : Word) (k : Nat) : a <<< k = BitVec.ofNat 32 (a.toNat * 2 ^ k) :=
  BitVec.eq_of_toNat_eq (by rw [BitVec.toNat_shiftLeft, Nat.shiftLeft_eq, BitVec.toNat_ofNat])

theorem ushiftRight_eq_ofNat (a : Word) (k : Nat) : a >>> k = BitVec.ofNat 32 (a.toNat / 2 ^ k) := by
  have hlt : a.toNat / 2 ^ k < 2 ^ 32 := (Nat.div_le_self _ _).trans_lt a.isLt
  refine BitVec.eq_of_toNat_eq ?_
  rw [BitVec.toNat_ushiftRight, Nat.shiftRight_eq_div_pow, BitVec.toNat_ofNat, Nat.mod_eq_of_lt hlt]

theorem sshiftRight_eq_ofInt (a : Word) (k : Nat) : a.sshiftRight k = BitVec.ofInt 32 (a.toInt / 2 ^ k) := by
  rw [BitVec.sshiftRight, Int.shiftRight_eq_div_pow]
  norm_cast

theorem sethiValue_eq (imm22 : BitVec 22) : sethiValue imm22 = BitVec.ofNat 32 (imm22.toNat * 1024) := by
  have h := imm22.isLt
  refine BitVec.eq_of_toNat_eq ?_
  rw [sethiValue, toNat_append_add, BitVec.toNat_ofNat, BitVec.toNat_ofNat]
  omega

end Sys2Proof.Machine
end

section
/-! PROOFS. The arithmetic, logical, shift and tagged instructions, MULScc, SAVE and RESTORE: each is one of the shared
operations on the values of the layer above (41_arith_logic_shift R220 to R275; 60_exceptions R461): O18 to O26. -/

namespace Sys2Proof.Machine

/-! ### The write that ends an instruction (R220) -/

/-- The state after an instruction that goes on, writes `v` to register `n` of window `w`, and leaves the PSR `p` and
the Y register `y`. -/
def resultState (s : State) (w : WindowNum) (n : RegNum) (v : Word) (p : Psr) (y : Word) : State :=
  { writeWin (advance s) w n v with psr := p, y := y }

section Result
variable (s : State) (w : WindowNum) (n : RegNum) (v : Word) (p : Psr)

theorem writeWin_advance_eq_resultState : writeWin (advance s) w n v = resultState s w n v s.psr s.y := by
  unfold resultState writeWin; cases home w n <;> rfl

theorem writeWin_advance_psr_eq_resultState :
    { writeWin (advance s) w n v with psr := p } = resultState s w n v p s.y := by
  unfold resultState writeWin; cases home w n <;> rfl

theorem readHome_resultState (y : Word) (h : RegHome) :
    readHome (resultState s w n v p y) h = readHome (writeWin (advance s) w n v) h := readHome_congr rfl rfl h

/-- The whole effect of such an end: the next instruction in order, one register, the PSR and Y, and no transaction. -/
theorem resultState_effect (y : Word) :
    goesOn s (resultState s w n v p y) ∧ madeCycles s (resultState s w n v p y) [] ∧
      writesOnly { s with y := y } (resultState s w n v p y) (home w n) v p := by
  have hregs : onlyRegister s (resultState s w n v p y) (home w n) v :=
    onlyRegister_congr (onlyRegister_writeWin (readHome_advance s) w n v) (readHome_resultState s w n v p y)
  refine ⟨by simp [goesOn, resultState], by simp [resultState], ⟨?_, ?_⟩, rfl, ?_, fun q => ?_⟩
  · exact hregs.1
  · exact fun h hh => (hregs.2 h hh).trans (readHome_congr rfl rfl h)
  · simp [sameSpecial, resultState]
  · simp [resultState]

end Result

/-! ### Instructions that write `r[rd]`, and icc or not (R220, R224) -/

section Writes
variable {s : State} {i : Instr} {rd : RegNum}

theorem computes_of_result {v : Word} {p : Psr}
    (h : runsAs s i (.next (resultState s (curWindow s) rd v p s.y))) : computes s i rd v p := fun hready =>
  have ⟨hgoes, hcycles, hwrites⟩ := resultState_effect s (curWindow s) rd v p s.y
  ⟨_, h hready, hgoes, hwrites, hcycles⟩

theorem computes_of_aluWrite {v : Word} (h : runsAs s i (aluWrite rd v s)) : computes s i rd v s.psr := by
  rw [aluWrite, writeWin_advance_eq_resultState] at h
  exact computes_of_result h

theorem computes_of_aluWriteCc {r : Word × Icc} (h : runsAs s i (aluWriteCc rd r s)) :
    computes s i rd r.1 { s.psr with icc := r.2 } := by
  rw [aluWriteCc, writeWin_advance_psr_eq_resultState] at h
  exact computes_of_result h

/-- Each bit of `v` is `f` of the bits of `a` and `b` at its place. -/
def bitsBy (f : Bool → Bool → Bool) (a b v : Word) : Prop :=
  ∀ k : Fin 32, v.getLsbD k = f (a.getLsbD k) (b.getLsbD k)

/-- A logical instruction that keeps icc (R252 to R262). -/
theorem computesBits_of_aluWrite {f : Bool → Bool → Bool} {a b v : Word} (hv : bitsBy f a b v)
    (h : runsAs s i (aluWrite rd v s)) : ∃ v, bitsBy f a b v ∧ computes s i rd v s.psr :=
  ⟨v, hv, computes_of_aluWrite h⟩

theorem logicIcc_eq (v : Word) :
    logicIcc v = { n := v.getLsbD 31, z := decide (v.toNat = 0), v := false, c := false } := by
  rw [logicIcc, BitVec.msb_eq_getLsbD_last, toNat_eq_zero]; rfl

/-- A logical instruction that writes icc (R224, R253 to R263). -/
theorem computesBits_of_logicWriteCc {f : Bool → Bool → Bool} {a b v : Word} (hv : bitsBy f a b v)
    (h : runsAs s i (logicWriteCc rd v s)) :
    ∃ v, bitsBy f a b v ∧ computes s i rd v
      { s.psr with icc := { n := v.getLsbD 31, z := decide (v.toNat = 0), v := false, c := false } } :=
  ⟨v, hv, logicIcc_eq v ▸ computes_of_aluWriteCc h⟩

end Writes

/-! ### Sums, differences, SETHI, and shifts: O18, O19, O22 -/

/-- Settles O18: each is the write of one value; with the carry in, that of the flag-writing form. -/
theorem addSubtract : Obligations.AddSubtract := by
  unfold Obligations.AddSubtract
  intro s rd rs1 o imm22 a b c
  rw [ofNat_add_toNat a b, ofInt_sub_toInt a b, ofInt_sub_toInt_carry a b c, ← sethiValue_eq]
  exact ⟨computes_of_aluWrite (runsAs_of_exec rfl), computes_of_aluWrite (runsAs_of_exec rfl),
    computes_of_aluWrite (runsAs_of_exec rfl), computes_of_aluWrite (runsAs_of_exec rfl),
    computes_of_aluWrite (runsAs_of_exec rfl)⟩

/-- Settles O19: each writes the result and the flags that `addFlags` or `subFlags` makes of the exact integers. -/
theorem addSubtractFlags : Obligations.AddSubtractFlags := by
  unfold Obligations.AddSubtractFlags
  intro s rd rs1 o a b c sum sumIcc dif difIcc
  have hsum : ∀ cin, addFlags a b cin = (sum (carryIn cin), sumIcc (carryIn cin)) := fun cin => by
    simp only [addFlags_eq, sum, sumIcc, toInt_neg_eq_getLsbD, toNat_eq_zero]
  have hdif : ∀ cin, subFlags a b cin = (dif (carryIn cin), difIcc (carryIn cin)) := fun cin => by
    simp only [subFlags_eq, dif, difIcc, toInt_neg_eq_getLsbD, toNat_eq_zero]
  have hadd : ∀ {i : Instr} (cin : Bool), runsAs s i (aluWriteCc rd (addFlags a b cin) s) →
      computes s i rd (sum (carryIn cin)) { s.psr with icc := sumIcc (carryIn cin) } := fun cin h => by
    rw [hsum] at h; exact computes_of_aluWriteCc h
  have hsub : ∀ {i : Instr} (cin : Bool), runsAs s i (aluWriteCc rd (subFlags a b cin) s) →
      computes s i rd (dif (carryIn cin)) { s.psr with icc := difIcc (carryIn cin) } := fun cin h => by
    rw [hdif] at h; exact computes_of_aluWriteCc h
  exact ⟨hadd false (runsAs_of_exec rfl), hadd (seenCarry s) (runsAs_of_exec rfl), hsub false (runsAs_of_exec rfl),
    hsub (seenCarry s) (runsAs_of_exec rfl)⟩

/-- Settles O22: the count is the low five bits of op2, and each shift is its product or quotient. -/
theorem shiftResults : Obligations.ShiftResults := by
  unfold Obligations.ShiftResults
  intro s rd rs1 o a k
  rw [← shiftLeft_eq_ofNat, ← ushiftRight_eq_ofNat, ← sshiftRight_eq_ofInt, show k = _ from (shiftCount_eq _).symm]
  exact ⟨computes_of_aluWrite (runsAs_of_exec rfl), computes_of_aluWrite (runsAs_of_exec rfl),
    computes_of_aluWrite (runsAs_of_exec rfl)⟩

/-! ### The logical instructions, bit by bit: O20, O21 -/

section Bits
variable (a b : Word)

theorem bitsBy_and : bitsBy (fun a b => a && b) a b (a &&& b) := fun _ => BitVec.getLsbD_and
theorem bitsBy_andn : bitsBy (fun a b => a && !b) a b (a &&& ~~~b) := fun k => by simp
theorem bitsBy_or : bitsBy (fun a b => a || b) a b (a ||| b) := fun _ => BitVec.getLsbD_or
theorem bitsBy_orn : bitsBy (fun a b => a || !b) a b (a ||| ~~~b) := fun k => by simp
theorem bitsBy_xor : bitsBy (fun a b => a != b) a b (a ^^^ b) := fun _ => BitVec.getLsbD_xor
theorem bitsBy_xnor : bitsBy (fun a b => a == b) a b (~~~(a ^^^ b)) := fun k => by
  have hbit : ∀ x y : Bool, (!(x ^^ y)) = (x == y) := by decide
  rw [BitVec.getLsbD_not, BitVec.getLsbD_xor, decide_eq_true k.isLt, Bool.true_and, hbit]

end Bits

/-- Settles O20: each instruction writes the word its operation gives bit by bit. -/
theorem logicalResults : Obligations.LogicalResults := by
  unfold Obligations.LogicalResults
  intro s rd rs1 o bitwise
  exact ⟨computesBits_of_aluWrite (bitsBy_and _ _) (runsAs_of_exec rfl),
    computesBits_of_aluWrite (bitsBy_andn _ _) (runsAs_of_exec rfl),
    computesBits_of_aluWrite (bitsBy_or _ _) (runsAs_of_exec rfl),
    computesBits_of_aluWrite (bitsBy_orn _ _) (runsAs_of_exec rfl),
    computesBits_of_aluWrite (bitsBy_xor _ _) (runsAs_of_exec rfl),
    computesBits_of_aluWrite (bitsBy_xnor _ _) (runsAs_of_exec rfl)⟩

/-- Settles O21: the same words, written with the flags of a logical result. -/
theorem logicalFlags : Obligations.LogicalFlags := by
  unfold Obligations.LogicalFlags
  intro s rd rs1 o bitwise
  exact ⟨computesBits_of_logicWriteCc (bitsBy_and _ _) (runsAs_of_exec rfl),
    computesBits_of_logicWriteCc (bitsBy_andn _ _) (runsAs_of_exec rfl),
    computesBits_of_logicWriteCc (bitsBy_or _ _) (runsAs_of_exec rfl),
    computesBits_of_logicWriteCc (bitsBy_orn _ _) (runsAs_of_exec rfl),
    computesBits_of_logicWriteCc (bitsBy_xor _ _) (runsAs_of_exec rfl),
    computesBits_of_logicWriteCc (bitsBy_xnor _ _) (runsAs_of_exec rfl)⟩

/-! ### The tagged instructions: O23, O24 -/

/-- Settles O23: the flags are those of `taddFlags` and `tsubFlags`, written whatever v is. -/
theorem taggedFlags : Obligations.TaggedFlags := by
  unfold Obligations.TaggedFlags
  intro s rd rs1 o a b tag
  have hadd := computes_of_aluWriteCc (runsAs_of_exec (i := .taddcc rd rs1 o) (s := s) rfl)
  have hsub := computes_of_aluWriteCc (runsAs_of_exec (i := .tsubcc rd rs1 o) (s := s) rfl)
  rw [taddFlags_eq] at hadd
  rw [tsubFlags_eq] at hsub
  exact ⟨⟨_, hadd, rfl, decide_eq_true_iff, decide_eq_true_iff, decide_eq_true_iff⟩,
    ⟨_, hsub, rfl, decide_eq_true_iff, decide_eq_true_iff, decide_eq_true_iff⟩⟩

section Tagged
variable {s : State} {i : Instr} {rd : RegNum} {v : Word} {n z c : Bool} {p : Prop} [Decidable p]

/-- A TV form raises tag_overflow when v would be set, having written nothing (60_exceptions R461). -/
theorem traps_of_taggedTrap (h : runsAs s i (taggedTrap rd (v, ⟨n, z, decide p, c⟩) s)) (hp : p) : traps 10 s i := by
  rw [taggedTrap, if_pos (decide_eq_true hp)] at h
  exact runsAs_raise h

/-- Else it completes with v = 0 (R243, R244). -/
theorem computes_of_taggedTrap (h : runsAs s i (taggedTrap rd (v, ⟨n, z, decide p, c⟩) s)) (hp : ¬ p) :
    computes s i rd v { s.psr with icc := ⟨n, z, false, c⟩ } := by
  rw [decide_eq_false hp, taggedTrap, if_neg Bool.false_ne_true] at h
  exact computes_of_aluWriteCc h

end Tagged

/-- Settles O24: by whether the v of the tagged sum or difference would be set. -/
theorem taggedTrapForms : Obligations.TaggedTrapForms := by
  unfold Obligations.TaggedTrapForms
  intro s rd rs1 o a b tag addOver subOver
  have hadd : runsAs s (.taddcctv rd rs1 o) (taggedTrap rd (taddFlags a b) s) := runsAs_of_exec rfl
  have hsub : runsAs s (.tsubcctv rd rs1 o) (taggedTrap rd (tsubFlags a b) s) := runsAs_of_exec rfl
  rw [taddFlags_eq] at hadd
  rw [tsubFlags_eq] at hsub
  exact ⟨computes_of_taggedTrap hadd, traps_of_taggedTrap hadd, computes_of_taggedTrap hsub, traps_of_taggedTrap hsub⟩

/-! ### MULScc: O25 -/

/-- The multiplicand of the step: op2 when Y is odd, else 0 (R250). -/
theorem mulStep_eq (icc : Icc) (a b y : Word) :
    mulStep icc a b y = addFlags (mulStepShift icc a) (if y.toNat % 2 = 1 then b else 0) false := by
  simp only [mulStep, getLsbD_zero_iff]

theorem mulsccState_eq (rd rs1 : RegNum) (o : RegImm) (y : Word) (s : State) :
    let r := mulStep s.psr.icc (readReg s rs1) (opValue s o) y
    mulsccState rd rs1 o y s =
      resultState s (curWindow s) rd r.1 { s.psr with icc := r.2 } (mulStepY (readReg s rs1) y) := rfl

/-- Settles O25: the step is an addition to the halved partial product, with its flags. -/
theorem multiplyStep : Obligations.MultiplyStep := by
  unfold Obligations.MultiplyStep
  intro s rd rs1 o a y t m r exact y' hready
  have ht : (mulStepShift s.psr.icc a).toNat = t := toNat_mulStepShift s.psr.icc a
  have hshift : mulStepShift s.psr.icc a = BitVec.ofNat 32 t := by rw [← ht, BitVec.ofNat_toNat, BitVec.setWidth_eq]
  have hstep : mulStep s.psr.icc a (opValue s o) y = (r,
      { n := r.getLsbD 31, z := decide (r = 0), v := decide (exact < -2 ^ 31 ∨ 2 ^ 31 ≤ exact),
        c := decide (2 ^ 32 ≤ t + m.toNat) }) := by
    have hcarry : carryIn false = 0 := rfl
    rw [mulStep_eq, addFlags_eq, ht, hcarry, Int.natCast_zero, Int.add_zero, Nat.add_zero, hshift]
  obtain ⟨hgoes, hcycles, hwrites⟩ := resultState_effect s (curWindow s) rd r _ y'
  refine ⟨_, (unlessUnsettled_ready hready).trans (congrArg _ ?_), hgoes, hcycles, hwrites⟩
  rw [mulsccState_eq, hstep, mulStepY_eq]

/-! ### SAVE and RESTORE: O26 -/

/-- The move to window `w` writes the sum through the new window, and CWP (R270). -/
theorem moveWindow_eq_resultState (w : WindowNum) (rd rs1 : RegNum) (o : RegImm) (s : State) :
    moveWindow w rd rs1 o s =
      resultState s w rd (readReg s rs1 + opValue s o) { s.psr with cwp := w } s.y :=
  writeWin_advance_psr_eq_resultState s w rd _ _

theorem moves_of_windowValid {s : State} {i : Instr} {k : Trap} {w : WindowNum} {rd rs1 : RegNum} {o : RegImm}
    (h : runsAs s i (if windowInvalid s w then raise k s else .next (moveWindow w rd rs1 o s)))
    (hw : s.wim.getLsbD w.val = false) (hready : ready i s) :
    ∃ t, exec i s = .next t ∧ goesOn s t ∧ madeCycles s t [] ∧
      writesOnly s t (home w rd) (readReg s rs1 + opValue s o) { s.psr with cwp := w } := by
  have hvalid : ¬ windowInvalid s w = true := by rw [windowInvalid, hw]; exact Bool.false_ne_true
  rw [if_neg hvalid, moveWindow_eq_resultState] at h
  exact ⟨_, h hready, resultState_effect s w rd _ _ s.y⟩

/-- Settles O26: both are the move to a window whose WIM bit is clear, one down or one up. -/
theorem saveRestoreMove : Obligations.SaveRestoreMove := by
  unfold Obligations.SaveRestoreMove
  intro s rd rs1 o w v
  exact ⟨moves_of_windowValid (k := .windowOverflow) (runsAs_of_exec rfl),
    moves_of_windowValid (k := .windowUnderflow) (runsAs_of_exec rfl)⟩

end Sys2Proof.Machine
end

section
/-! PROOFS. The integer branches, CALL, JMPL and the traps on a condition: each retires at a pair of program counters,
or raises a trap (42_control_transfer R290 to R303; 30_encoding R126, R136): O37, O38, O39, O40. -/

namespace Sys2Proof.Machine

/-! ### The displacements and the trap number (30_encoding R126; 42_control_transfer R302) -/

theorem toInt_append_two (d : BitVec 22) : (d ++ 0#2).toInt = 4 * d.toInt := by
  simp only [BitVec.toInt_eq_toNat_cond, toNat_append_add, BitVec.toNat_ofNat]
  split_ifs <;> omega

theorem branchOffset_eq (d : BitVec 22) : branchOffset d = BitVec.ofInt 32 (4 * d.toInt) := by
  rw [branchOffset, BitVec.signExtend, toInt_append_two]

theorem callOffset_eq (d : BitVec 30) : callOffset d = BitVec.ofNat 32 (4 * d.toNat) := by
  have hlt := d.isLt
  refine BitVec.eq_of_toNat_eq ?_
  rw [callOffset, toNat_append_add, BitVec.toNat_ofNat, BitVec.toNat_ofNat]
  omega

/-- The type number of a Ticc is 128 plus the low seven bits of the sum (R302). -/
theorem trapType_trapNumber (v : Word) :
    trapType (.trapInstruction (trapNumber v)) = BitVec.ofNat 8 (128 + v.toNat % 128) := by
  have hbase : (128 : BitVec 8).toNat = 128 := rfl
  refine BitVec.eq_of_toNat_eq ?_
  simp only [trapType, trapNumber, hbase, BitVec.toNat_add, BitVec.toNat_setWidth, BitVec.extractLsb'_toNat,
    BitVec.toNat_ofNat, Nat.shiftRight_zero]
  omega

/-! ### Instructions that write nothing but PC and nPC -/

section Transfers
variable {s : State} {i : Instr} {c : Cond} {a taken : Bool}

theorem transfers_of_retire {pc npc : Word} (h : runsAs s i (.next (retire s pc npc))) : transfers s s i pc npc :=
  fun hready => ⟨_, h hready, rfl, rfl,
    ⟨onlyRegister_none (readHome_retire s pc npc), rfl, by simp [sameSpecial], fun _ => rfl⟩, by simp⟩

/-- A Bicc with a condition of its own: taken it executes its delay instruction, untaken a = 1 annuls it (R294). -/
theorem transfers_of_bicc {d : BitVec 22} (h : runsAs s i (bicc c a d s)) (hc : (c == .always) = false)
    (htaken : evalIcc c s.psr.icc = taken) :
    (taken = true → transfers s s i s.npc (s.pc + BitVec.ofInt 32 (4 * d.toInt))) ∧
    (taken = false → a = false → transfers s s i s.npc (s.npc + 4)) ∧
    (taken = false → a = true → transfers s s i (s.npc + 4) (s.npc + 8)) := by
  rw [bicc, branchTarget, branchOffset_eq, hc, htaken] at h
  refine ⟨fun ht => ?_, fun ht ha => ?_, fun ht ha => ?_⟩
  · subst ht; exact transfers_of_retire h
  · subst ht ha; exact transfers_of_retire h
  · subst ht ha; exact transfers_of_retire h

/-- BA, which annuls its delay instruction although taken when a = 1 (R293, R294). -/
theorem transfers_of_bicc_always {d : BitVec 22} (h : runsAs s i (bicc .always a d s)) :
    let target := s.pc + BitVec.ofInt 32 (4 * d.toInt)
    (a = false → transfers s s i s.npc target) ∧ (a = true → transfers s s i target (target + 4)) := by
  rw [bicc, branchTarget, branchOffset_eq] at h
  refine ⟨fun ha => ?_, fun ha => ?_⟩
  · subst ha; exact transfers_of_retire h
  · subst ha; exact transfers_of_retire h

/-- A Ticc raises its trap when the condition holds, and else only goes on (R302). -/
theorem traps_or_transfers_of_ticc {rs1 : RegNum} {o : RegImm} (h : runsAs s i (ticc c rs1 o s))
    (htaken : evalIcc c s.psr.icc = taken) :
    (taken = true → traps (BitVec.ofNat 8 (128 + (readReg s rs1 + opValue s o).toNat % 128)) s i) ∧
    (taken = false → transfers s s i s.npc (s.npc + 4)) := by
  obtain ⟨hholds, e⟩ | ⟨hfails, e⟩ := ticc_cases c rs1 o s
  · rw [e] at h
    have htraps := runsAs_raise h
    rw [trapType_trapNumber] at htraps
    exact ⟨fun _ => htraps, fun ht => absurd (hholds.symm.trans (htaken.trans ht)) (by decide)⟩
  · rw [e] at h
    exact ⟨fun ht => absurd (hfails.symm.trans (htaken.trans ht)) (by decide), fun _ => transfers_of_retire h⟩

end Transfers

/-! ### The conditions (30_encoding R136) -/

theorem evalIcc_greaterOrEqual (f : Icc) : evalIcc .greaterOrEqual f = (f.n == f.v) := Bool.not_not _

theorem evalIcc_greaterUnsigned (f : Icc) : evalIcc .greaterUnsigned f = (!f.c && !f.z) := Bool.not_or _ _

/-- Settles O37: each Bicc is the branch on its condition, BA the one that ignores the flags. -/
theorem integerBranches : Obligations.IntegerBranches := by
  unfold Obligations.IntegerBranches
  intro s a d target f branch
  obtain ⟨hdelayed, hannulled⟩ := transfers_of_bicc_always (runsAs_of_exec (i := .ba a d) (s := s) rfl)
  have hbranch : ∀ {i : Instr} {taken : Bool} (c : Cond), exec i s = unlessUnsettled i s (bicc c a d s) →
      (c == .always) = false → evalIcc c f = taken → branch i taken := fun _ hx =>
    transfers_of_bicc (runsAs_of_exec hx)
  exact ⟨hdelayed, hannulled, hbranch .never rfl rfl rfl, hbranch .notEqual rfl rfl rfl, hbranch .equal rfl rfl rfl,
    hbranch .greater rfl rfl rfl, hbranch .lessOrEqual rfl rfl rfl,
    hbranch .greaterOrEqual rfl rfl (evalIcc_greaterOrEqual f), hbranch .less rfl rfl rfl,
    hbranch .greaterUnsigned rfl rfl (evalIcc_greaterUnsigned f), hbranch .lessOrEqualUnsigned rfl rfl rfl,
    hbranch .carryClear rfl rfl rfl, hbranch .carrySet rfl rfl rfl, hbranch .positive rfl rfl rfl,
    hbranch .negative rfl rfl rfl, hbranch .overflowClear rfl rfl rfl, hbranch .overflowSet rfl rfl rfl⟩

/-- Settles O40: each Ticc raises its trap or goes on, by its condition. -/
theorem trapOnCondition : Obligations.TrapOnCondition := by
  unfold Obligations.TrapOnCondition
  intro s rs1 o tt f trap
  have htrap : ∀ {i : Instr} {taken : Bool} (c : Cond), exec i s = unlessUnsettled i s (ticc c rs1 o s) →
      evalIcc c f = taken → trap i taken := fun _ hx => traps_or_transfers_of_ticc (runsAs_of_exec hx)
  exact ⟨htrap .always rfl rfl, htrap .never rfl rfl, htrap .notEqual rfl rfl, htrap .equal rfl rfl,
    htrap .greater rfl rfl, htrap .lessOrEqual rfl rfl, htrap .greaterOrEqual rfl (evalIcc_greaterOrEqual f),
    htrap .less rfl rfl, htrap .greaterUnsigned rfl (evalIcc_greaterUnsigned f), htrap .lessOrEqualUnsigned rfl rfl,
    htrap .carryClear rfl rfl, htrap .carrySet rfl rfl, htrap .positive rfl rfl, htrap .negative rfl rfl,
    htrap .overflowClear rfl rfl, htrap .overflowSet rfl rfl⟩

/-! ### The flags of a comparison (41_arith_logic_shift R223) -/

/-- The sign of the wrapped difference, reversed where it overflowed, is the sign of the exact one. -/
theorem sign_of_wrapped_difference {d : Int} (hlo : -2 ^ 32 < d) (hhi : d < 2 ^ 32) :
    (decide (d.bmod (2 ^ 32) < 0) ^^ decide (d < -2 ^ 31 ∨ 2 ^ 31 ≤ d)) = decide (d < 0) := by
  have hwrap : d.bmod (2 ^ 32) < 0 ↔ ¬ (d < 0 ↔ d < -2 ^ 31 ∨ 2 ^ 31 ≤ d) := by
    rw [Int.bmod_def]; omega
  rw [Bool.eq_iff_iff, Bool.xor_iff_ne]
  simp only [hwrap, ne_eq, decide_eq_decide, decide_eq_true_iff]
  omega

section Compare
variable (a b : Word)

/-- The flags of a comparison, by the operands (R223). -/
theorem subFlags_icc :
    (subFlags a b false).2 =
      { n := decide ((a.toInt - b.toInt).bmod (2 ^ 32) < 0)
        z := decide (a = b)
        v := decide (a.toInt - b.toInt < -2 ^ 31 ∨ 2 ^ 31 ≤ a.toInt - b.toInt)
        c := decide (a.toNat < b.toNat) } := by
  have hcarry : carryIn false = 0 := rfl
  have hzero : (a - b = 0) = (a = b) := propext sub_eq_zero
  simp only [subFlags_eq, hcarry, Nat.add_zero, Int.natCast_zero, Int.sub_zero, ofInt_sub_toInt, hzero,
    ← toInt_neg_eq_getLsbD, BitVec.toInt_sub]

theorem subFlags_signed : ((subFlags a b false).2.n ^^ (subFlags a b false).2.v) = decide (a.toInt < b.toInt) := by
  have ha := a.toInt_lt
  have ha' := a.le_toInt
  have hb := b.toInt_lt
  have hb' := b.le_toInt
  rw [subFlags_icc, sign_of_wrapped_difference (by omega) (by omega), decide_eq_decide]
  omega

end Compare

/-- Settles O38: equality by z, the signed order by n xor v, the unsigned order by c, and the others by these. -/
theorem conditionsCompare : Obligations.ConditionsCompare := by
  unfold Obligations.ConditionsCompare
  intro a b f
  have hz : f.z = decide (a = b) := congrArg Icc.z (subFlags_icc a b)
  have hc : f.c = decide (a.toNat < b.toNat) := congrArg Icc.c (subFlags_icc a b)
  have hs : (f.n ^^ f.v) = decide (a.toInt < b.toInt) := subFlags_signed a b
  have hint : a = b ↔ a.toInt = b.toInt := BitVec.toInt_inj.symm
  have hnat : a = b ↔ a.toNat = b.toNat := BitVec.toNat_inj.symm
  have hequal : evalIcc .equal f = true ↔ a = b := by rw [evalIcc, hz, decide_eq_true_iff]
  have hless : evalIcc .less f = true ↔ a.toInt < b.toInt := by rw [evalIcc, hs, decide_eq_true_iff]
  have hcarry : evalIcc .carrySet f = true ↔ a.toNat < b.toNat := by rw [evalIcc, hc, decide_eq_true_iff]
  have hle : evalIcc .lessOrEqual f = true ↔ a.toInt ≤ b.toInt := by
    rw [evalIcc, hz, hs, Bool.or_eq_true, decide_eq_true_iff, decide_eq_true_iff, hint]; omega
  have hleu : evalIcc .lessOrEqualUnsigned f = true ↔ a.toNat ≤ b.toNat := by
    rw [evalIcc, hz, hc, Bool.or_eq_true, decide_eq_true_iff, decide_eq_true_iff, hnat]; omega
  have hnot : ∀ {c d : Cond} {p : Prop}, evalIcc d f = !evalIcc c f → (evalIcc c f = true ↔ p) →
      (evalIcc d f = true ↔ ¬ p) := fun hd hp => by
    rw [hd, Bool.not_eq_true', ← hp, Bool.not_eq_true]
  exact ⟨hequal, hnot rfl hequal, (hnot rfl hle).trans not_le, hle, (hnot rfl hless).trans not_lt, hless,
    (hnot rfl hleu).trans not_le, hleu, (hnot rfl hcarry).trans not_lt, hcarry⟩

/-! ### CALL and JMPL (R296, R300) -/

/-- The state after a delayed transfer to `target` that writes its own address to `r[n]`, and the mark of a JMPL. -/
def linkedTo (s : State) (target : Word) (n : RegNum) (mark : Bool) : State :=
  { writeWin (delayedTo s target) (curWindow s) n s.pc with afterJmpl := mark }

section Link
variable {s t : State}

theorem linkedTo_effect (s : State) (target : Word) (n : RegNum) (mark : Bool) :
    (linkedTo s target n mark).pc = s.npc ∧ (linkedTo s target n mark).npc = target ∧
      writesOnly s (linkedTo s target n mark) (destination s n) s.pc s.psr ∧
      madeCycles s (linkedTo s target n mark) [] := by
  have hregs : onlyRegister s (linkedTo s target n mark) (destination s n) s.pc :=
    onlyRegister_congr (onlyRegister_writeWin (readHome_delayedTo s target) (curWindow s) n s.pc)
      (readHome_congr rfl rfl)
  exact ⟨by simp [linkedTo], by simp [linkedTo],
    ⟨hregs, by simp [linkedTo], by simp [sameSpecial, linkedTo], fun p => by simp [linkedTo]⟩, by simp [linkedTo]⟩

theorem call_runsAs (s : State) (disp30 : BitVec 30) :
    runsAs s (.call disp30) (.next (linkedTo s (s.pc + callOffset disp30) 15 false)) := by
  have hunmarked : writeWin (delayedTo s (s.pc + callOffset disp30)) (curWindow s) 15 s.pc =
      linkedTo s (s.pc + callOffset disp30) 15 false := by
    unfold linkedTo writeWin; cases home (curWindow s) 15 <;> rfl
  rw [← hunmarked]
  exact runsAs_of_exec rfl

theorem jmpl_runsAs {rs1 : RegNum} {o : RegImm} (rd : RegNum) (h : (readReg s rs1 + opValue s o).toNat % 4 = 0) :
    runsAs s (.jmpl rd rs1 o) (.next (linkedTo s (readReg s rs1 + opValue s o) rd true)) := fun hready =>
  (unlessUnsettled_ready hready).trans (if_pos (alignedTo_eq_true.2 h))

/-- A JMPL that completes has not trapped, so its target was aligned and it leaves the mark (R300, R311). -/
theorem jmpl_completed_mark {rd rs1 : RegNum} {o : RegImm} (hc : completed (.jmpl rd rs1 o) s t) :
    t.afterJmpl = true := by
  by_cases ha : (readReg s rs1 + opValue s o).toNat % 4 = 0
  · injection runsAs_next (jmpl_runsAs rd ha) hc.1 with ht
    rw [← ht]; rfl
  · have hraise : runsAs s (.jmpl rd rs1 o) (raise .memAddressNotAligned s) := fun hready =>
      (unlessUnsettled_ready hready).trans (if_neg (alignedTo_eq_true.not.2 ha))
    exact ((Touched.refl (ok := nowhere)).raise_not_completed hc (runsAs_next hraise hc.1)).elim

/-- Every other end of an instruction that completes clears the mark (R311). -/
theorem completed_mark_jmpl {i : Instr} (hc : completed i s t) (hmark : t.afterJmpl = true) :
    ∃ rd rs1 o, i = .jmpl rd rs1 o := by
  obtain ⟨hx, hm, hn⟩ := hc
  cases exec_ends hx with
  | trap k _ _ _ he hu => exact absurd (hu.trapTaken he k) hn
  | halt | cut | notReturned => cases hm
  | jump rd rs1 o _ hi => exact ⟨rd, rs1, o, hi⟩
  | plain _ _ _ _ hv | flags _ _ hv | multiply _ _ _ _ _ _ hv | window _ _ _ _ _ hv =>
    exact absurd (hv.afterJmpl.symm.trans hmark) (by simp)
  | returned | psr | y | wim | tbr => cases hmark

end Link

/-- Settles O39: both write the link and transfer, and the mark is a completed JMPL's alone. -/
theorem callAndJump : Obligations.CallAndJump := by
  unfold Obligations.CallAndJump
  intro s rd rs1 o disp30
  refine ⟨fun hready => ?_, fun haligned hready => ?_, fun i t hc => ⟨completed_mark_jmpl hc, ?_⟩⟩
  · rw [← callOffset_eq]
    exact ⟨_, call_runsAs s disp30 hready, linkedTo_effect s _ 15 false⟩
  · exact ⟨_, jmpl_runsAs rd haligned hready, linkedTo_effect s _ rd true⟩
  · rintro ⟨rd, rs1, o, rfl⟩
    exact jmpl_completed_mark hc

end Sys2Proof.Machine
end

section
/-! PROOFS. RETT check by check, and SAVE and RESTORE into an invalid window (42_control_transfer R305 to R311;
41_arith_logic_shift R272, R273; 60_exceptions R449, R450): O27, O41, O42. -/

namespace Sys2Proof.Machine

/-! ### RETT, by the first check that fails (R305, R308, R310, R311) -/

section Return
variable {s : State} {rs1 : RegNum} {o : RegImm}

theorem rett_enabled (rs1 : RegNum) (o : RegImm) (he : s.psr.et = true) :
    runsAs s (.rett rs1 o) (raise .illegalInstruction s) := fun hready =>
  (unlessUnsettled_ready hready).trans (if_pos he)

theorem rett_user (rs1 : RegNum) (o : RegImm) (he : s.psr.et = false) (hs : s.psr.s = false) :
    runsAs s (.rett rs1 o) (.next { s with tt := 3, mode := .error }) := fun hready =>
  (unlessUnsettled_ready hready).trans (by simp only [he, hs]; rfl)

theorem rett_windowInvalid (rs1 : RegNum) (o : RegImm) (he : s.psr.et = false) (hs : supervisor s)
    (hw : windowInvalid s (nextWindow (curWindow s)) = true) :
    runsAs s (.rett rs1 o) (.next { s with tt := 6, mode := .error }) := fun hready =>
  (unlessUnsettled_ready hready).trans (by simp only [he, hs, hw]; rfl)

theorem rett_misaligned (he : s.psr.et = false) (hs : supervisor s)
    (hw : windowInvalid s (nextWindow (curWindow s)) = false) (ha : (readReg s rs1 + opValue s o).toNat % 4 ≠ 0) :
    runsAs s (.rett rs1 o) (.next { s with tt := 7, mode := .error }) := fun hready => by
  have hmis : alignedTo 4 (effAddr s rs1 o) = false := Bool.eq_false_iff.2 (alignedTo_eq_true.not.2 ha)
  exact (unlessUnsettled_ready hready).trans (by simp only [he, hs, hw, hmis]; rfl)

/-- A RETT that passes its checks returns after a JMPL and is refused after any other instruction (R311). -/
theorem rett_passes (he : s.psr.et = false) (hs : supervisor s)
    (hw : windowInvalid s (nextWindow (curWindow s)) = false) (ha : (readReg s rs1 + opValue s o).toNat % 4 = 0) :
    runsAs s (.rett rs1 o) (if s.afterJmpl then .next (returnFromTrap (readReg s rs1 + opValue s o) s)
      else .refused .returnWithoutJmpl) := fun hready => by
  have hal : alignedTo 4 (effAddr s rs1 o) = true := alignedTo_eq_true.2 ha
  exact (unlessUnsettled_ready hready).trans (by simp only [he, hs, hw, hal]; rfl)

/-- The whole effect of a return: the delayed transfer, CWP, S and ET, and no transaction (R305). -/
theorem returnFromTrap_effect (target : Word) (s : State) :
    writesOnly s (returnFromTrap target s) .zero 0
      { s.psr with cwp := curWindow s + 1, s := s.psr.ps, et := true } ∧
    madeCycles s (returnFromTrap target s) [] :=
  ⟨⟨onlyRegister_none (readHome_returnFromTrap target s), rfl, by simp [sameSpecial], fun _ => rfl⟩, by simp⟩

end Return

/-- Settles O42: the illegal RETT, and each failed check in the order of R310. -/
theorem returnFromTrapFails : Obligations.ReturnFromTrapFails := by
  unfold Obligations.ReturnFromTrapFails
  intro s rs1 o invalid
  exact ⟨fun he => runsAs_raise (rett_enabled rs1 o he), fun hready he =>
    ⟨fun hs => rett_user rs1 o he hs hready, fun hs hw => rett_windowInvalid rs1 o he hs hw hready,
      fun hs hw ha => rett_misaligned he hs hw ha hready⟩⟩

/-! ### SAVE and RESTORE into an invalid window (60_exceptions R449, R450) -/

theorem save_windowInvalid {s : State} (rd rs1 : RegNum) (o : RegImm)
    (hw : windowInvalid s (prevWindow (curWindow s)) = true) :
    runsAs s (.save rd rs1 o) (raise .windowOverflow s) := fun hready =>
  (unlessUnsettled_ready hready).trans (if_pos hw)

theorem restore_windowInvalid {s : State} (rd rs1 : RegNum) (o : RegImm)
    (hw : windowInvalid s (nextWindow (curWindow s)) = true) :
    runsAs s (.restore rd rs1 o) (raise .windowUnderflow s) := fun hready =>
  (unlessUnsettled_ready hready).trans (if_pos hw)

/-- With no WRPSR window open and traps enabled, the handler of a raised trap runs one window down (R431). -/
theorem traps_cwp {s : State} {i : Instr} {k : BitVec 8} (h : traps k s i) (hready : ready i s)
    (hl : s.psrDelay.left = 0) (he : trapsEnabled s) : ∃ t, exec i s = .next t ∧ t.psr.cwp = curWindow s - 1 := by
  obtain ⟨-, htaken, -⟩ := h hready
  obtain ⟨t, hx, hpsr, -⟩ := htaken (by simp [live_settled hl, PsrFields.none]) he
  exact ⟨t, hx, congrArg Psr.cwp hpsr⟩

/-- Settles O27: SAVE and RESTORE raise, and RETT fails by the same test. -/
theorem invalidWindowTraps : Obligations.InvalidWindowTraps := by
  unfold Obligations.InvalidWindowTraps
  intro s rd rs1 o w
  refine ⟨fun hw => ?_, fun hw => ?_⟩
  · have htraps : traps 5 s (.save rd rs1 o) := runsAs_raise (save_windowInvalid rd rs1 o hw)
    exact ⟨htraps, traps_cwp htraps⟩
  · exact ⟨runsAs_raise (restore_windowInvalid rd rs1 o hw),
      fun hready he hs => rett_windowInvalid rs1 o he hs hw hready⟩

end Sys2Proof.Machine

namespace Sys2Proof
open Machine

/-- Settles O41: with every check passed it turns on the mark of the JMPL. (`Machine.returnFromTrap` is the model's.) -/
theorem returnFromTrap : Obligations.ReturnFromTrap := by
  unfold Obligations.ReturnFromTrap
  intro s rs1 o hready he hs hw ha
  have hpasses := rett_passes he hs hw ha hready
  refine ⟨fun hmark => ?_, fun hmark => ?_⟩
  · rw [if_pos hmark] at hpasses
    obtain ⟨hwrites, hcycles⟩ := returnFromTrap_effect (readReg s rs1 + opValue s o) s
    exact ⟨_, hpasses, rfl, rfl, hcycles, hwrites, rfl⟩
  · rwa [if_neg (by rw [hmark]; exact Bool.false_ne_true)] at hpasses

end Sys2Proof
end

section
/-! PROOFS. The reads of the state registers, and what a trap leaves of the windows of their writes
(43_state_registers R332 to R335, R345, R347): O44, O46, O47. -/

namespace Sys2Proof.Machine

/-! ### The PSR, WIM and TBR as words (R333 to R335) -/

/-- What RDPSR reads of a PSR, WRPSR writes back (10_state R36; 43_state_registers R333, R336). -/
theorem psrOfWord_psrWord (p : Psr) : psrOfWord (psrWord p) p.cwp = p := by
  have hreserved : (psrWord p).extractLsb' 14 6 = p.reserved := by
    ext k hk
    rw [psrWord, BitVec.getElem_extractLsb']
    iterate 7 rw [BitVec.getLsbD_append, if_neg (by omega)]
    rw [BitVec.getLsbD_append, if_pos (by omega), ← BitVec.getLsbD_eq_getElem]
    congr 1; omega
  have hpil : (psrWord p).extractLsb' 8 4 = p.pil := by
    ext k hk
    rw [psrWord, BitVec.getElem_extractLsb']
    iterate 4 rw [BitVec.getLsbD_append, if_neg (by omega)]
    rw [BitVec.getLsbD_append, if_pos (by omega), ← BitVec.getLsbD_eq_getElem]
    congr 1; omega
  simp only [psrOfWord, hreserved, hpil]
  simp only [psrWord, BitVec.getLsbD_append]
  simp

theorem psrWord_cwp (p : Psr) : (psrWord p).toNat % 32 = p.cwp.val := by
  have hlt := p.cwp.isLt
  rw [psrWord, toNat_append_add, BitVec.toNat_ofNat]
  simp only [Config.nWindows] at hlt
  omega

/-- impl and ver, as a field (10_state R36). -/
theorem psrWord_high (p : Psr) : (psrWord p).extractLsb' 24 8 = 0 := by
  rw [BitVec.extractLsb', ← BitVec.toNat_ushiftRight, psrWord_impl_ver]; rfl

theorem wimWord_eq (s : State) : wimWord s = BitVec.ofNat 32 s.wim.toNat := by
  rw [wimWord, BitVec.zeroExtend]; exact (BitVec.ofNat_toNat 32 s.wim).symm

theorem tbrWord_eq (s : State) : tbrWord s = BitVec.ofNat 32 (s.tba.toNat * 4096 + s.tt.toNat * 16) := by
  have htba := s.tba.isLt
  have htt := s.tt.isLt
  refine BitVec.eq_of_toNat_eq ?_
  rw [tbrWord, toNat_append_add, toNat_append_add, BitVec.toNat_ofNat, BitVec.toNat_ofNat]
  omega

/-! ### The reads: O44 -/

section Reads
variable {s : State} {i : Instr} {rd : RegNum} {v : Word}

/-- In supervisor mode a privileged instruction does what it is for (R330). -/
theorem runsAs_supervisorOnly {act : Answer} (hs : supervisor s)
    (h : exec i s = unlessUnsettled i s (supervisorOnly s act)) : runsAs s i act := fun hready =>
  (runsAs_of_exec h hready).trans (if_pos hs)

/-- A read of a state register writes `r[rd]` as an arithmetic instruction does. -/
theorem computes_of_readState (h : runsAs s i (readState rd v s)) : computes s i rd v s.psr := computes_of_aluWrite h

theorem rdy_computes (s : State) (rd : RegNum) : computes s (.rdy rd) rd s.y s.psr :=
  computes_of_readState (runsAs_of_exec rfl)

theorem rdpsr_computes (rd : RegNum) (hs : supervisor s) : computes s (.rdpsr rd) rd (psrRead s) s.psr :=
  computes_of_readState (runsAs_supervisorOnly hs rfl)

theorem rdwim_computes (rd : RegNum) (hs : supervisor s) : computes s (.rdwim rd) rd (wimWord s) s.psr :=
  computes_of_readState (runsAs_supervisorOnly hs rfl)

theorem rdtbr_computes (rd : RegNum) (hs : supervisor s) : computes s (.rdtbr rd) rd (tbrWord s) s.psr :=
  computes_of_readState (runsAs_supervisorOnly hs rfl)

end Reads

/-- Settles O44: each reads its register's word; the bits of the PSR's are those that WRPSR would write back. -/
theorem stateRegisterReads : Obligations.StateRegisterReads := by
  unfold Obligations.StateRegisterReads
  intro s rd
  refine ⟨rdy_computes s rd, fun hs => ⟨?_, ?_, psrRead s, rdpsr_computes rd hs, psrWord_high _, ?_⟩⟩
  · rw [← wimWord_eq]; exact rdwim_computes rd hs
  · rw [← tbrWord_eq]; exact rdtbr_computes rd hs
  · have hback : psrOfWord (psrRead s) s.psr.cwp = { s.psr with reserved := Config.freeReserved s.free } :=
      psrOfWord_psrWord { s.psr with reserved := Config.freeReserved s.free }
    have hicc := congrArg Psr.icc hback
    exact ⟨congrArg Icc.n hicc, congrArg Icc.z hicc, congrArg Icc.v hicc, congrArg Icc.c hicc, congrArg Psr.ec hback,
      congrArg Psr.ef hback, congrArg Psr.pil hback, congrArg Psr.s hback, congrArg Psr.ps hback,
      congrArg Psr.et hback, psrWord_cwp _⟩

/-! ### A trap within the windows: O46, O47 -/

theorem trapBase_cases (s : State) : trapBase s = s.tbrDelay.oldTba ∨ trapBase s = s.tba := by
  unfold trapBase; split <;> simp

/-- Trap entry keeps TBA, the new one within a window, and writes tt (R345; 60_exceptions R431). -/
theorem tbrWord_trapEntry (k : BitVec 8) (s : State) : tbrWord (trapEntry k s) = s.tba ++ k ++ 0#4 := by
  rw [tbrWord, trapEntry_tba, trapEntry_tt]

/-- Settles O46: with traps enabled a raised trap is its entry, through either base. -/
theorem trapBaseOldOrNew : Obligations.TrapBaseOldOrNew := by
  unfold Obligations.TrapBaseOldOrNew
  intro k s t _ he h
  obtain ⟨-, ⟨-, -, -, rfl⟩ | ⟨hdisabled, -⟩⟩ := raise_next h
  · rw [trapEntry_npc, trapEntry_pc]
    refine ⟨?_, rfl, tbrWord_trapEntry _ s⟩
    rcases trapBase_cases s with hbase | hbase
    · exact .inl (by rw [hbase])
    · exact .inr (by rw [hbase])
  · exact absurd (hdisabled.symm.trans he) Bool.false_ne_true

/-- A register that an instruction of a settled state writes reads as written. -/
theorem computes_readWin {s : State} {i : Instr} {rd : RegNum} {v : Word} {p : Psr} (h : computes s i rd v p)
    (hs : settled s) (hrd : rd ≠ 0) : ∃ t, exec i s = .next t ∧ readWin t s.psr.cwp rd = v := by
  obtain ⟨t, hx, -, ⟨⟨hwritten, -⟩, -⟩, -⟩ := h (ready_settled i hs)
  exact ⟨t, hx, hwritten (home_eq_zero.not.2 hrd)⟩

/-- Settles O47: the handler starts in supervisor mode with every window closed, and its reads are those of O44. -/
theorem trapClosesWindows : Obligations.TrapClosesWindows := by
  unfold Obligations.TrapClosesWindows
  intro k s rd hrd t
  have hsettled : settled t := trapEntry_settled k s
  have hs : supervisor t := congrArg Psr.s (trapEntry_psr k s)
  obtain ⟨u, hu, hy⟩ := computes_readWin (rdy_computes t rd) hsettled hrd
  obtain ⟨v, hv, hwim⟩ := computes_readWin (rdwim_computes rd hs) hsettled hrd
  obtain ⟨w, hw, htbr⟩ := computes_readWin (rdtbr_computes rd hs) hsettled hrd
  rw [trapEntry_y] at hy
  rw [wimWord_eq, trapEntry_wim] at hwim
  rw [tbrWord_trapEntry] at htbr
  exact ⟨hsettled, u, v, w, hu, hy, hv, hwim, hw, htbr⟩

end Sys2Proof.Machine
end

section
/-! PROOFS. The writes of the state registers and the windows they open (43_state_registers R336 to R340): O45. -/

namespace Sys2Proof.Machine

/-! ### The fields of the value written (R336, R338, R339) -/

theorem extractLsb'_zero_eq_ofNat (n : Nat) (v : Word) : v.extractLsb' 0 n = BitVec.ofNat n v.toNat := by
  rw [BitVec.extractLsb', Nat.shiftRight_zero]

theorem extractLsb'_tba (v : Word) : v.extractLsb' 12 20 = BitVec.ofNat 20 (v.toNat / 4096) := by
  rw [BitVec.extractLsb', Nat.shiftRight_eq_div_pow]

theorem toNat_extractLsb'_cwp (v : Word) : (v.extractLsb' 0 5).toNat = v.toNat % 32 := by
  rw [extractLsb'_zero_eq_ofNat, BitVec.toNat_ofNat]

/-! ### The window of a WRPSR (R340) -/

/-- `field` of a set of PSR fields stands for the field `get` of the PSR. -/
structure StandsFor {α : Type} [DecidableEq α] (field : PsrFields → Bool) (get : Psr → α) : Prop where
  diff : ∀ a b, field (psrDiff a b) = (get a != get b) := by intros; rfl
  union : ∀ a b, field (a.union b) = (field a || field b) := by intros; rfl
  none : field .none = false := by rfl

/-- A field is unsettled when its window is open and holds it. -/
theorem live_iff {field : PsrFields → Bool} (hnone : field .none = false) (d : PsrDelay) :
    field d.live = true ↔ d.left ≠ 0 ∧ field d.changed = true := by
  by_cases hl : d.left = 0
  · simp [PsrDelay.live, hl, hnone]
  · simp [PsrDelay.live, hl]

/-- The window a WRPSR opens holds the fields it changes and those of a window still open. -/
theorem StandsFor.openPsrDelay_iff {α : Type} [DecidableEq α] {field : PsrFields → Bool} {get : Psr → α}
    (h : StandsFor field get) (s : State) (p : Psr) :
    field (openPsrDelay s p).changed = true ↔
      ¬ get p = get s.psr ∨ (s.psrDelay.left ≠ 0 ∧ field s.psrDelay.changed = true) := by
  rw [openPsrDelay, h.union, h.diff, Bool.or_eq_true, bne_iff_ne, live_iff h.none, ne_comm]

theorem openPsrDelay_old_of_closed {s : State} (h : s.psrDelay.left = 0) (p : Psr) :
    (openPsrDelay s p).oldEt = s.psr.et ∧ (openPsrDelay s p).oldPil = s.psr.pil := ⟨if_pos h, if_pos h⟩

theorem openPsrDelay_old_of_open {s : State} (h : s.psrDelay.left ≠ 0) (p : Psr) :
    (openPsrDelay s p).oldEt = s.psrDelay.oldEt ∧ (openPsrDelay s p).oldPil = s.psrDelay.oldPil :=
  ⟨if_neg h, if_neg h⟩

/-! ### Each write, and all that it changes -/

section Writes
variable {s : State} {rs1 : RegNum} {o : RegImm}

theorem writeY_effect (v : Word) (s : State) :
    goesOn s (writeY v s) ∧ writesOnly { s with y := v } (writeY v s) .zero 0 s.psr ∧ madeCycles s (writeY v s) [] :=
  ⟨⟨rfl, rfl⟩, ⟨onlyRegister_none (readHome_writeY v s), rfl, by simp [sameSpecial], fun _ => rfl⟩, by simp⟩

theorem writeWim_effect (v : Word) (s : State) :
    goesOn s (writeWim v s) ∧
      writesOnly { s with wim := BitVec.ofNat 7 v.toNat } (writeWim v s) .zero 0 s.psr ∧
      madeCycles s (writeWim v s) [] :=
  ⟨⟨rfl, rfl⟩, ⟨onlyRegister_none (readHome_writeWim v s), rfl,
    by simp [sameSpecial, extractLsb'_zero_eq_ofNat], fun _ => rfl⟩, by simp⟩

theorem writeTbr_effect (v : Word) (s : State) :
    goesOn s (writeTbr v s) ∧
      writesOnly { s with tba := BitVec.ofNat 20 (v.toNat / 4096) } (writeTbr v s) .zero 0 s.psr ∧
      madeCycles s (writeTbr v s) [] :=
  ⟨⟨rfl, rfl⟩, ⟨onlyRegister_none (readHome_writeTbr v s), rfl,
    by simp [sameSpecial, extractLsb'_tba], fun _ => rfl⟩, by simp⟩

theorem writePsr_effect (p : Psr) (s : State) :
    goesOn s (writePsr p s) ∧ writesOnly s (writePsr p s) .zero 0 p ∧ madeCycles s (writePsr p s) [] :=
  ⟨⟨rfl, rfl⟩, ⟨onlyRegister_none (readHome_writePsr p s), rfl, by simp [sameSpecial], fun _ => rfl⟩, by simp⟩

/-- The PSR that WRPSR makes of a value (R336). -/
def writtenPsr (v : Word) : Psr := psrOfWord v (Fin.ofNat 7 (v.extractLsb' 0 5).toNat)

theorem writtenPsr_cwp {v : Word} (h : v.toNat % 32 < 7) : (writtenPsr v).cwp.val = v.toNat % 32 := by
  rw [← toNat_extractLsb'_cwp] at h ⊢
  exact Nat.mod_eq_of_lt h

/-- A WRPSR of a window that exists, in supervisor mode, writes (R336). -/
theorem wrpsr_runsAs (hs : supervisor s) (hv : (readReg s rs1 ^^^ opValue s o).toNat % 32 < 7) :
    runsAs s (.wrpsr rs1 o) (.next (writePsr (writtenPsr (readReg s rs1 ^^^ opValue s o)) s)) := fun hready =>
  (unlessUnsettled_ready hready).trans ((if_pos ((toNat_extractLsb'_cwp _).trans_lt hv)).trans (if_pos hs))

end Writes

/-- Settles O45: each register's new value, with its window and the frame of its write. -/
theorem stateRegisterWrites : Obligations.StateRegisterWrites := by
  unfold Obligations.StateRegisterWrites
  intro s rs1 o v changes
  refine ⟨fun hready => ?_, fun hs => ⟨fun hready => ?_, fun hready => ?_, fun hv hready => ?_⟩⟩
  · obtain ⟨hgoes, hwrites, hcycles⟩ := writeY_effect v s
    exact ⟨_, unlessUnsettled_ready hready, hgoes, hwrites, rfl, hcycles⟩
  · obtain ⟨hgoes, hwrites, hcycles⟩ := writeWim_effect v s
    exact ⟨_, runsAs_supervisorOnly hs rfl hready, hgoes, hwrites, rfl, hcycles⟩
  · obtain ⟨hgoes, hwrites, hcycles⟩ := writeTbr_effect v s
    exact ⟨_, runsAs_supervisorOnly hs rfl hready, hgoes, hwrites, rfl, rfl, hcycles⟩
  · obtain ⟨hgoes, hwrites, hcycles⟩ := writePsr_effect (writtenPsr v) s
    have hchanges : ∀ {α : Type} [DecidableEq α] {field : PsrFields → Bool} {get : Psr → α}, StandsFor field get →
        changes (writePsr (writtenPsr v) s) field (get (writtenPsr v) = get s.psr) := fun h =>
      h.openPsrDelay_iff s (writtenPsr v)
    exact ⟨_, wrpsr_runsAs hs hv hready, hgoes, hwrites, rfl, hcycles, writtenPsr_cwp hv, rfl, rfl, rfl,
      rfl, rfl, rfl, rfl, rfl, hchanges (get := Psr.icc) {},
      hchanges (get := Psr.reserved) {},
      hchanges (get := Psr.ec) {},
      hchanges (get := Psr.ef) {},
      hchanges (get := Psr.pil) {},
      hchanges (get := Psr.s) {},
      hchanges (get := Psr.ps) {},
      hchanges (get := Psr.et) {},
      hchanges (get := Psr.cwp) {},
      fun h => openPsrDelay_old_of_closed h _, fun h => openPsrDelay_old_of_open h _⟩

end Sys2Proof.Machine
end

section
/-! PROOFS. Which instruction uses which state register, read off the fields of its word, and the refusal of a use
within a window (43_state_registers R340, R341, R343, R344, R346): O17. -/

namespace Sys2Proof.Machine

/-! ### The rows of the opcode map, by the fields of a word (30_encoding R121 to R124) -/

section Rows
variable (w : Word)

/-- A word of Format 2 with this op2. -/
def hasOp2 (n : BitVec 3) : Bool := fieldOp w == 0 && fieldOp2 w == n

/-- A word with op = 2 and one of these op3. -/
def hasOp3 (l : List (BitVec 6)) : Bool := fieldOp w == 2 && l.contains (fieldOp3 w)

/-- The word of a load or store. -/
def isLoadStore : Bool := fieldOp w == 3

/-- The word of a floating point load or store. -/
def isFloatLoadStore : Bool := isLoadStore w && (decide (0x20#6 ≤ fieldOp3 w) && decide (fieldOp3 w ≤ 0x27))

/-- The word of an arithmetic, logical or shift instruction. -/
def isArithmetic : Bool := fieldOp w == 2 && decide (fieldOp3 w < 0x28)

/-- The rd field is the number of an r register. -/
def namesRd : Bool :=
  hasOp2 w 4 || isArithmetic w || hasOp3 w [0x28, 0x29, 0x2A, 0x2B, 0x38, 0x3C, 0x3D] ||
    (isLoadStore w && !isFloatLoadStore w)

/-- The rs1 field, and with i = 0 the rs2 field, is the number of an r register. -/
def namesRs1 : Bool :=
  isArithmetic w || hasOp3 w [0x30, 0x31, 0x32, 0x33, 0x38, 0x39, 0x3A, 0x3C, 0x3D] || isLoadStore w

/-- The second operand is a register that CWP maps. -/
def windowedRs2 : Bool := !fieldI w && windowedNumber (fieldRs2 w)

/-- A field is the number of an r register that CWP maps. -/
def namesWindowed : Bool :=
  (namesRd w && windowedNumber (fieldRd w)) || ((namesRs1 w && windowedNumber (fieldRs1 w)) ||
    (namesRs1 w && windowedRs2 w))

/-- The fields of the PSR that the instruction of a word uses (R341). -/
def wordUsesPsr : PsrFields :=
  { icc := hasOp2 w 2 || hasOp3 w [0x08, 0x18, 0x0C, 0x1C, 0x24, 0x29, 0x3A]
    reserved := hasOp3 w [0x29]
    ec := hasOp3 w [0x29]
    ef := hasOp2 w 6 || hasOp3 w [0x29, 0x34, 0x35] || isFloatLoadStore w
    pil := hasOp3 w [0x29]
    s := isLoadStore w || hasOp3 w [0x29, 0x2A, 0x2B, 0x31, 0x32, 0x33, 0x39]
    ps := hasOp3 w [0x29, 0x39]
    et := hasOp3 w [0x29, 0x39]
    cwp := namesWindowed w || fieldOp w == 1 || hasOp3 w [0x29, 0x39, 0x3C, 0x3D] }

end Rows

section Formats
variable (d : BitVec 30) (rd rs1 : RegNum) (n op2 : BitVec 3) (imm22 : BitVec 22) (a : Bool) (cond : BitVec 4)
  (op : BitVec 2) (op3 : BitVec 6) (tail : BitVec 14) (l : List (BitVec 6))

@[simp] theorem hasOp2_fmt1 : hasOp2 (fmt1 d) n = false := by simp [hasOp2]
@[simp] theorem hasOp2_fmt2a : hasOp2 (fmt2a rd op2 imm22) n = (op2 == n) := by simp [hasOp2]
@[simp] theorem hasOp2_fmt2b : hasOp2 (fmt2b a cond op2 imm22) n = (op2 == n) := by simp [hasOp2]
@[simp] theorem hasOp2_fmt3 :
    hasOp2 (fmt3 op rd op3 rs1 tail) n = (op == 0 && fieldOp2 (fmt3 op rd op3 rs1 tail) == n) := by simp [hasOp2]
@[simp] theorem hasOp3_fmt1 : hasOp3 (fmt1 d) l = false := by simp [hasOp3]
@[simp] theorem hasOp3_fmt2a : hasOp3 (fmt2a rd op2 imm22) l = false := by simp [hasOp3]
@[simp] theorem hasOp3_fmt2b : hasOp3 (fmt2b a cond op2 imm22) l = false := by simp [hasOp3]
@[simp] theorem hasOp3_fmt3 : hasOp3 (fmt3 op rd op3 rs1 tail) l = (op == 2 && l.contains op3) := by simp [hasOp3]

end Formats

/-! ### The users of each register, as rows of the opcode map -/

/-- What each instruction uses, by its row. CWP is used by those that name a windowed register, too. -/
theorem uses_eq_rows (i : Instr) :
    { usesPsr i with cwp := false } = { wordUsesPsr (encode i) with cwp := false } ∧
      usesWim i = hasOp3 (encode i) [0x2A, 0x39, 0x3C, 0x3D] ∧ usesY i = hasOp3 (encode i) [0x24, 0x28] ∧
      usesTbr i = hasOp3 (encode i) [0x2B] ∧
      usesCwp i = (hasOp3 (encode i) [0x39, 0x3C, 0x3D] ||
        ((regFields i).any windowedNumber || hasOp3 (encode i) [0x29])) := by
  cases i <;> simp only [encode, wordUsesPsr, hasOp2_fmt1, hasOp2_fmt2a, hasOp2_fmt2b, hasOp2_fmt3, hasOp3_fmt1,
    hasOp3_fmt2a, hasOp3_fmt2b, hasOp3_fmt3, isFloatLoadStore, isLoadStore, fieldOp_fmt1, fieldOp_fmt2a, fieldOp_fmt2b,
    fieldOp_fmt3, fieldOp3_fmt3] <;> exact ⟨rfl, rfl, rfl, rfl, rfl⟩

theorem usesWim_eq (i : Instr) : usesWim i = hasOp3 (encode i) [0x2A, 0x39, 0x3C, 0x3D] := by
  obtain ⟨-, hwim, -⟩ := uses_eq_rows i
  exact hwim

theorem usesY_eq (i : Instr) : usesY i = hasOp3 (encode i) [0x24, 0x28] := by
  obtain ⟨-, -, hy, -⟩ := uses_eq_rows i
  exact hy

theorem usesTbr_eq (i : Instr) : usesTbr i = hasOp3 (encode i) [0x2B] := by
  obtain ⟨-, -, -, htbr, -⟩ := uses_eq_rows i
  exact htbr

/-! ### The r registers that CWP maps -/

/-- Each form of the second operand names a register exactly when i = 0 (30_encoding R127). -/
theorem any_windowed_field (w : Word) :
    (regsOfRegImm (fieldRegImm w)).any windowedNumber = windowedRs2 w ∧
      (regsOfAlt (fieldAlt w)).any windowedNumber = windowedRs2 w ∧
      (regsOfFp (fieldFp w)).any windowedNumber = windowedRs2 w := by
  cases hi : fieldI w <;>
    simp [fieldRegImm, fieldAlt, fieldFp, windowedRs2, regsOfRegImm, regsOfAlt, regsOfFp, hi]

section Operands
variable (op : BitVec 2) (rd rs1 : RegNum) (op3 : BitVec 6)

theorem windowedRs2_regImm (o : RegImm) :
    windowedRs2 (fmt3 op rd op3 rs1 (tailRegImm o)) = (regsOfRegImm o).any windowedNumber := by
  obtain ⟨hfield, -, -⟩ := any_windowed_field (fmt3 op rd op3 rs1 (tailRegImm o))
  rw [← hfield, fieldRegImm_fmt3]

theorem windowedRs2_alt (a : AltOperand) :
    windowedRs2 (fmt3 op rd op3 rs1 (tailAlt a)) = (regsOfAlt a).any windowedNumber := by
  obtain ⟨-, hfield, -⟩ := any_windowed_field (fmt3 op rd op3 rs1 (tailAlt a))
  rw [← hfield, fieldAlt_fmt3]

theorem windowedRs2_fp (a : FpOperand) :
    windowedRs2 (fmt3 op rd op3 rs1 (tailFp a)) = (regsOfFp a).any windowedNumber := by
  obtain ⟨-, -, hfield⟩ := any_windowed_field (fmt3 op rd op3 rs1 (tailFp a))
  rw [← hfield, fieldFp_fmt3]

end Operands

/-- A windowed number is the r15 of CALL, or stands in a field of the word. -/
theorem any_windowed_regFields (i : Instr) :
    (regFields i).any windowedNumber = (fieldOp (encode i) == 1 || namesWindowed (encode i)) := by
  cases i <;> simp only [encode, namesWindowed, namesRd, namesRs1, isArithmetic, isLoadStore, isFloatLoadStore,
    hasOp2_fmt1, hasOp2_fmt2a, hasOp2_fmt2b, hasOp2_fmt3, hasOp3_fmt1, hasOp3_fmt2a, hasOp3_fmt2b, hasOp3_fmt3,
    fieldOp_fmt1, fieldOp_fmt2a, fieldOp_fmt2b, fieldOp_fmt3, fieldOp3_fmt3, fieldRd_fmt2a, fieldRd_fmt3,
    fieldRs1_fmt3, windowedRs2_regImm, windowedRs2_alt, windowedRs2_fp] <;> rfl

theorem hasOp3_cons (w : Word) (n : BitVec 6) (l : List (BitVec 6)) :
    hasOp3 w (n :: l) = (hasOp3 w [n] || hasOp3 w l) := by
  simp [hasOp3, Bool.and_or_distrib_left]

/-- SAVE, RESTORE and RETT move the window, RDPSR reads CWP, and the others use it through their registers. -/
theorem usesCwp_eq (i : Instr) :
    usesCwp i = ((regFields i).any windowedNumber || hasOp3 (encode i) [0x29, 0x39, 0x3C, 0x3D]) := by
  obtain ⟨-, -, -, -, hcwp⟩ := uses_eq_rows i
  rw [hcwp, hasOp3_cons _ 0x29 [0x39, 0x3C, 0x3D], Bool.or_comm, Bool.or_assoc]

theorem PsrFields.eq_of_cwp {a b : PsrFields} (hcwp : a.cwp = b.cwp)
    (hothers : { a with cwp := false } = { b with cwp := false }) : a = b := by
  cases a; cases b; simp_all

/-- The PSR fields an instruction uses are those its word says. -/
theorem usesPsr_eq (i : Instr) : usesPsr i = wordUsesPsr (encode i) := by
  have hcwp : usesCwp i = (wordUsesPsr (encode i)).cwp := by
    rw [usesCwp_eq, any_windowed_regFields, wordUsesPsr, Bool.or_comm (fieldOp (encode i) == 1)]
  obtain ⟨hothers, -⟩ := uses_eq_rows i
  exact PsrFields.eq_of_cwp hcwp hothers

/-! ### The fields of R341 in an open window -/

/-- Some field is unsettled and used, in the order of R341's table. -/
theorem meets_iff (a b : PsrFields) : a.meets b = true ↔
    (b.icc = true ∧ a.icc = true) ∨ (b.ef = true ∧ a.ef = true) ∨ (b.s = true ∧ a.s = true) ∨
    (b.ps = true ∧ a.ps = true ∨ b.et = true ∧ a.et = true) ∨ (b.cwp = true ∧ a.cwp = true) ∨
    (b.reserved = true ∧ a.reserved = true ∨ b.ec = true ∧ a.ec = true ∨ b.pil = true ∧ a.pil = true) := by
  refine Iff.of_eq ?_
  simp only [PsrFields.meets, Bool.or_eq_true, Bool.and_eq_true]
  ac_rfl

/-- The field is one of those an open window holds. -/
def unsettledField (d : PsrDelay) (field : PsrFields → Bool) : Prop := d.left ≠ 0 ∧ field d.changed = true

theorem meets_live_iff (a : PsrFields) (d : PsrDelay) : a.meets d.live = true ↔
    (unsettledField d (·.icc) ∧ a.icc = true) ∨ (unsettledField d (·.ef) ∧ a.ef = true) ∨
    (unsettledField d (·.s) ∧ a.s = true) ∨
    (unsettledField d (·.ps) ∧ a.ps = true ∨ unsettledField d (·.et) ∧ a.et = true) ∨
    (unsettledField d (·.cwp) ∧ a.cwp = true) ∨
    (unsettledField d (·.reserved) ∧ a.reserved = true ∨ unsettledField d (·.ec) ∧ a.ec = true ∨
      unsettledField d (·.pil) ∧ a.pil = true) := by
  rw [meets_iff]
  by_cases hl : d.left = 0
  · simp [PsrDelay.live, PsrFields.none, unsettledField, hl]
  · simp only [PsrDelay.live, unsettledField, ne_eq, hl, if_false, not_false_eq_true, true_and]

/-! ### The rows, as the statement spells them -/

section Fields
variable (w : Word)

theorem hasOp2_iff (n : BitVec 3) : hasOp2 w n = true ↔ fieldOp w = 0 ∧ fieldOp2 w = n := by
  simp [hasOp2]

theorem hasOp3_iff (l : List (BitVec 6)) : hasOp3 w l = true ↔ fieldOp w = 2 ∧ fieldOp3 w ∈ l := by
  simp [hasOp3]

theorem isLoadStore_iff : isLoadStore w = true ↔ fieldOp w = 3 := by simp [isLoadStore]

theorem isFloatLoadStore_iff :
    isFloatLoadStore w = true ↔ fieldOp w = 3 ∧ 0x20#6 ≤ fieldOp3 w ∧ fieldOp3 w ≤ 0x27 := by
  simp [isFloatLoadStore, isLoadStore]

theorem isArithmetic_iff : isArithmetic w = true ↔ fieldOp w = 2 ∧ fieldOp3 w < 0x28 := by simp [isArithmetic]

theorem windowedNumber_iff (n : RegNum) : windowedNumber n = true ↔ 8 ≤ n.toNat := decide_eq_true_iff

theorem windowedRs2_iff : windowedRs2 w = true ↔ fieldI w = false ∧ 8 ≤ (fieldRs2 w).toNat := by
  rw [windowedRs2, Bool.and_eq_true, Bool.not_eq_true', windowedNumber_iff]

theorem namesRd_iff : namesRd w = true ↔
    (fieldOp w = 0 ∧ fieldOp2 w = 4) ∨ (fieldOp w = 2 ∧ fieldOp3 w < 0x28) ∨
      (fieldOp w = 2 ∧ fieldOp3 w ∈ [0x28, 0x29, 0x2A, 0x2B, 0x38, 0x3C, 0x3D]) ∨
      (fieldOp w = 3 ∧ ¬ (fieldOp w = 3 ∧ 0x20#6 ≤ fieldOp3 w ∧ fieldOp3 w ≤ 0x27)) := by
  simp only [namesRd, Bool.or_eq_true, Bool.and_eq_true, Bool.not_eq_true', ← Bool.not_eq_true, hasOp2_iff, hasOp3_iff,
    isArithmetic_iff, isLoadStore_iff, isFloatLoadStore_iff, or_assoc]

theorem namesRs1_iff : namesRs1 w = true ↔
    (fieldOp w = 2 ∧ fieldOp3 w < 0x28) ∨
      (fieldOp w = 2 ∧ fieldOp3 w ∈ [0x30, 0x31, 0x32, 0x33, 0x38, 0x39, 0x3A, 0x3C, 0x3D]) ∨ fieldOp w = 3 := by
  simp only [namesRs1, Bool.or_eq_true, hasOp3_iff, isArithmetic_iff, isLoadStore_iff, or_assoc]

theorem namesWindowed_iff : namesWindowed w = true ↔
    (namesRd w = true ∧ 8 ≤ (fieldRd w).toNat) ∨ (namesRs1 w = true ∧ 8 ≤ (fieldRs1 w).toNat) ∨
      (namesRs1 w = true ∧ fieldI w = false ∧ 8 ≤ (fieldRs2 w).toNat) := by
  simp only [namesWindowed, Bool.or_eq_true, Bool.and_eq_true, windowedNumber_iff, windowedRs2_iff]

end Fields

/-! ### The refusal (R340) -/

/-- What is unsettled is refused by every meaning (log 8). -/
theorem exec_refused {i : Instr} {s : State} {r : Refusal} (h : unsettled i s = some r) : exec i s = .refused r := by
  obtain ⟨act, hx⟩ := exec_unlessUnsettled i s
  rw [hx, unlessUnsettled_refused h]

/-- Lists of op3 with no value in common have no word in common. -/
theorem hasOp3_disjoint {w : Word} {l m : List (BitVec 6)} (hd : ∀ n ∈ l, n ∉ m) (h : hasOp3 w l = true) :
    hasOp3 w m = false := by
  rw [Bool.eq_false_iff, Ne, hasOp3_iff]
  exact fun hm => hd _ ((hasOp3_iff w l).1 h).2 hm.2

section Refusal
variable {i : Instr} {s : State}

theorem unsettled_psr (h : (usesPsr i).meets s.psrDelay.live = true) : unsettled i s = some .psrUnsettled := if_pos h

theorem unsettled_wim (h : ¬ (usesPsr i).meets s.psrDelay.live = true) (hwim : usesWim i = true)
    (ho : s.wimDelay ≠ 0) : unsettled i s = some .wimUnsettled := by
  simp [unsettled, h, hwim, ho]

theorem unsettled_y (h : ¬ (usesPsr i).meets s.psrDelay.live = true) (hy : usesY i = true) (ho : s.yDelay ≠ 0) :
    unsettled i s = some .yUnsettled := by
  have hwim : usesWim i = false := by
    rw [usesY_eq] at hy; rw [usesWim_eq]; exact hasOp3_disjoint (by decide) hy
  simp [unsettled, h, hwim, hy, ho]

theorem unsettled_tbr (h : ¬ (usesPsr i).meets s.psrDelay.live = true) (ht : usesTbr i = true)
    (ho : s.tbrDelay.left ≠ 0) : unsettled i s = some .tbrUnsettled := by
  rw [usesTbr_eq] at ht
  have hwim : usesWim i = false := by rw [usesWim_eq]; exact hasOp3_disjoint (by decide) ht
  have hy : usesY i = false := by rw [usesY_eq]; exact hasOp3_disjoint (by decide) ht
  rw [← usesTbr_eq] at ht
  simp [unsettled, h, hwim, hy, ht, ho]

theorem ready_of_unused (h : ¬ (usesPsr i).meets s.psrDelay.live = true) (hwim : ¬ (s.wimDelay ≠ 0 ∧ usesWim i = true))
    (hy : ¬ (s.yDelay ≠ 0 ∧ usesY i = true)) (ht : ¬ (s.tbrDelay.left ≠ 0 ∧ usesTbr i = true)) : ready i s := by
  simp only [not_and, Bool.not_eq_true] at hwim hy ht
  unfold ready unsettled
  rw [if_neg h, if_neg, if_neg, if_neg] <;> simp only [Bool.and_eq_true, bne_iff_ne, not_and'] <;> simpa

end Refusal

/-! ### A WRPSR of the value PSR has -/

section SameValue
variable {a b : Word}

theorem getLsbD_of_low (h : a.extractLsb' 0 24 = b.extractLsb' 0 24) {k : Nat} (hk : k < 24) :
    a.getLsbD k = b.getLsbD k := by
  have hk' := congrArg (·.getLsbD k) h
  simpa [hk] using hk'

theorem extractLsb'_of_low (h : a.extractLsb' 0 24 = b.extractLsb' 0 24) {i n : Nat} (hn : i + n ≤ 24) :
    a.extractLsb' i n = b.extractLsb' i n := by
  ext k hk
  rw [BitVec.getElem_extractLsb', BitVec.getElem_extractLsb', getLsbD_of_low h (by omega)]

/-- WRPSR ignores bits 31:24 (R336). -/
theorem writtenPsr_of_low (h : a.extractLsb' 0 24 = b.extractLsb' 0 24) : writtenPsr a = writtenPsr b := by
  have hbit : ∀ k < 24, a.getLsbD k = b.getLsbD k := fun _ => getLsbD_of_low h
  simp only [writtenPsr, psrOfWord, extractLsb'_of_low h (show 0 + 5 ≤ 24 by decide),
    extractLsb'_of_low h (show 14 + 6 ≤ 24 by decide), extractLsb'_of_low h (show 8 + 4 ≤ 24 by decide),
    hbit 23 (by decide), hbit 22 (by decide), hbit 21 (by decide), hbit 20 (by decide), hbit 13 (by decide),
    hbit 12 (by decide), hbit 7 (by decide), hbit 6 (by decide), hbit 5 (by decide)]

end SameValue

theorem writtenPsr_psrWord (p : Psr) : writtenPsr (psrWord p) = p := by
  have hcwp : Fin.ofNat 7 ((psrWord p).extractLsb' 0 5).toNat = p.cwp := by
    rw [toNat_extractLsb'_cwp, psrWord_cwp]
    exact Fin.ext (Nat.mod_eq_of_lt p.cwp.isLt)
  rw [writtenPsr, hcwp, psrOfWord_psrWord]

theorem openPsrDelay_same {s : State} (h : s.psrDelay.left = 0) :
    (openPsrDelay s s.psr).changed = PsrFields.none := by
  simp [openPsrDelay, live_settled h, psrDiff, PsrFields.union, PsrFields.none]

/-- In supervisor mode a WRPSR of the value PSR has keeps PSR and opens a window that holds nothing. -/
theorem wrpsr_same {s : State} {rs1 : RegNum} {o : RegImm} (hready : ready (.wrpsr rs1 o) s) (hs : supervisor s)
    (hl : s.psrDelay.left = 0)
    (hv : (readReg s rs1 ^^^ opValue s o).extractLsb' 0 24 = (psrWord s.psr).extractLsb' 0 24) :
    ∃ t, exec (.wrpsr rs1 o) s = .next t ∧ t.psr = s.psr ∧ t.psrDelay.left = 3 ∧
      t.psrDelay.changed = PsrFields.none := by
  have hcwp : (readReg s rs1 ^^^ opValue s o).toNat % 32 < 7 := by
    rw [← toNat_extractLsb'_cwp, extractLsb'_of_low hv (by decide), toNat_extractLsb'_cwp, psrWord_cwp]
    exact s.psr.cwp.isLt
  have hx := wrpsr_runsAs hs hcwp hready
  rw [writtenPsr_of_low hv, writtenPsr_psrWord] at hx
  exact ⟨_, hx, rfl, rfl, openPsrDelay_same hl⟩

/-- Settles O17: the uses of the model are those of the statement's table, register by register; the first unsettled
one names the refusal. -/
theorem unsettledUseRefused : Obligations.UnsettledUseRefused := by
  unfold Obligations.UnsettledUseRefused
  refine ⟨?_, fun s rs1 o => wrpsr_same⟩
  intro s i w changed op2 op3 call loadStore floatLoadStore arithmetic namesRd namesRs1 windowed usesPsr usesWim usesY
    usesTbr
  have hwindowed : namesWindowed (encode i) = true ↔ windowed := by
    rw [namesWindowed_iff, namesRd_iff, namesRs1_iff]
  have hpsr : (Machine.usesPsr i).meets s.psrDelay.live = true ↔ usesPsr := by
    rw [usesPsr_eq, meets_live_iff]
    simp only [wordUsesPsr, ← or_and_right, Bool.or_eq_true, beq_iff_eq, or_assoc, hasOp2_iff, hasOp3_iff,
      isLoadStore_iff, isFloatLoadStore_iff, hwindowed]
    exact Iff.rfl
  have hwim : (s.wimDelay ≠ 0 ∧ Machine.usesWim i = true) ↔ usesWim := by rw [usesWim_eq, hasOp3_iff]
  have hy : (s.yDelay ≠ 0 ∧ Machine.usesY i = true) ↔ usesY := by rw [usesY_eq, hasOp3_iff]
  have htbr : (s.tbrDelay.left ≠ 0 ∧ Machine.usesTbr i = true) ↔ usesTbr := by rw [usesTbr_eq, hasOp3_iff]
  rw [← hpsr, ← hwim, ← hy, ← htbr]
  exact ⟨fun h => exec_refused (unsettled_psr h), fun h ⟨ho, hu⟩ => exec_refused (unsettled_wim h hu ho),
    fun h ⟨ho, hu⟩ => exec_refused (unsettled_y h hu ho), fun h ⟨ho, hu⟩ => exec_refused (unsettled_tbr h hu ho),
    ready_of_unused⟩

end Sys2Proof.Machine
end

section
/-! PROOFS. The checks that every floating point instruction stands behind, and the instructions that make no memory
access (44_fp_and_other R360 to R364, R368): O56, O57; the checks serve O58 to O60. -/

namespace Sys2Proof.Machine

/-! ### The checks, in their order (R361, R362, R364) -/

theorem fpDisabled_eq_true_iff {s : State} : fpDisabled s = true ↔ s.psr.ef = false ∨ s.fpuPresent = false := by
  cases hef : s.psr.ef <;> simp [fpDisabled, hef]

theorem fpDisabled_eq_false {s : State} (hef : s.psr.ef = true) (hp : s.fpuPresent = true) : fpDisabled s = false := by
  simp [fpDisabled, hef, hp]

/-- Behind the checks of the floating point instructions, the address being `aligned`, the instruction is `act`. -/
structure Checked (s : State) (i : Instr) (aligned : Prop) (act : Answer) : Prop where
  disabled : fpDisabled s = true → runsAs s i (raise .fpDisabled s)
  misaligned : fpDisabled s = false → ¬ aligned → runsAs s i (raise .memAddressNotAligned s)
  pending : fpDisabled s = false → aligned → s.fexc = true → runsAs s i (raiseFpException s)
  passes : fpDisabled s = false → aligned → s.fexc = false → runsAs s i act

section Checks
variable {s : State} {i : Instr} {act : Answer} {aligned : Prop}

theorem checked_withFpu (h : runsAs s i (withFpu s act)) : Checked s i True act := by
  obtain ⟨hd, e⟩ | ⟨hd, hx, e⟩ | ⟨hd, hx, e⟩ := withFpu_cases s act <;> rw [e] at h
  · exact ⟨fun _ => h, by simp [hd], by simp [hd], by simp [hd]⟩
  · exact ⟨by simp [hd], by simp, fun _ _ _ => h, by simp [hx]⟩
  · exact ⟨by simp [hd], by simp, by simp [hx], fun _ _ _ => h⟩

theorem checked_withFpuAddress {n : Nat} {ea : Word} (h : runsAs s i (withFpuAddress n ea s act)) :
    Checked s i (ea.toNat % n = 0) act := by
  rw [← alignedTo_eq_true]
  obtain ⟨hd, e⟩ | ⟨hd, ha, e⟩ | ⟨hd, ha, hx, e⟩ | ⟨hd, ha, hx, e⟩ := withFpuAddress_cases n ea s act <;> rw [e] at h
  · exact ⟨fun _ => h, by simp [hd], by simp [hd], by simp [hd]⟩
  · exact ⟨by simp [hd], fun _ _ => h, by simp [ha], by simp [ha]⟩
  · exact ⟨by simp [hd], by simp [ha], fun _ _ _ => h, by simp [hx]⟩
  · exact ⟨by simp [hd], by simp [ha], by simp [hx], fun _ _ _ => h⟩

theorem Checked.ready_passes (h : Checked s i aligned act) (hf : fpuReady s) (ha : aligned) : runsAs s i act := by
  obtain ⟨hef, hp, hx⟩ := hf
  exact h.passes (fpDisabled_eq_false hef hp) ha hx

/-- With traps enabled the pending exception is taken, and FXACK clears it; else the machine halts with it (R362). -/
theorem raises_raiseFpException (s : State) :
    (trapsEnabled s → raises 8 { s with fexc := false, fpuOut := s.fpuOut ++ [.fxack] } (raiseFpException s)) ∧
    (s.psr.et = false → raises 8 s (raiseFpException s)) := by
  refine ⟨fun he => ?_, fun he => ?_⟩
  · rw [raiseFpException, if_pos he]; exact raises_raise .fpException _
  · rw [raiseFpException, if_neg (by simp [he])]; exact raises_raise .fpException s

theorem Checked.traps_disabled (h : Checked s i aligned act) (hd : s.psr.ef = false ∨ s.fpuPresent = false) :
    traps 4 s i := runsAs_raise (h.disabled (fpDisabled_eq_true_iff.2 hd))

theorem Checked.traps_misaligned (h : Checked s i aligned act) (hd : fpDisabled s = false) (ha : ¬ aligned) :
    traps 7 s i := runsAs_raise (h.misaligned hd ha)

theorem Checked.raises_pending (h : Checked s i aligned act) (hd : fpDisabled s = false) (ha : aligned)
    (hx : s.fexc = true) : ready i s →
      (trapsEnabled s → raises 8 { s with fexc := false, fpuOut := s.fpuOut ++ [.fxack] } (exec i s)) ∧
      (s.psr.et = false → raises 8 s (exec i s)) := by
  intro hready
  rw [h.pending hd ha hx hready]
  exact raises_raiseFpException s

end Checks

/-! ### The floating point operate instructions (R363) -/

/-- The word of an FPop, field by field (30_encoding R124). -/
theorem fmt3_opf (op : BitVec 2) (rd : RegNum) (op3 : BitVec 6) (rs1 : RegNum) (opf : BitVec 9) (rs2 : RegNum) :
    fmt3 op rd op3 rs1 (opf ++ rs2) = op ++ rd ++ op3 ++ rs1 ++ opf ++ rs2 := by
  rw [fmt3, BitVec.append_assoc (x₁ := op ++ rd ++ op3 ++ rs1), BitVec.cast_eq]

theorem transfers_of_fpop {s : State} {i : Instr} (hf : fpuReady s) (h : runsAs s i (fpop i s)) :
    transfers s { s with fpuOut := s.fpuOut ++ [.op (encode i) s.pc] } i s.npc (s.npc + 4) := fun hready =>
  ⟨_, (checked_withFpu h).ready_passes hf trivial hready, rfl, rfl,
    ⟨onlyRegister_none fun g => readHome_congr rfl rfl g, rfl, by simp [sameSpecial], fun _ => rfl⟩, by simp⟩

/-- Settles O56: each row is an FPop, and its word is that of its op3 and opf. -/
theorem floatOperate : Obligations.FloatOperate := by
  unfold Obligations.FloatOperate
  intro s rd rs1 rs2 opf hf sends
  have hsends : ∀ {i : Instr} {op3 : BitVec 6} {opf : BitVec 9}, exec i s = unlessUnsettled i s (fpop i s) →
      encode i = fmt3 2#2 rd op3 rs1 (opf ++ rs2) → sends i op3 opf := by
    intro i op3 opf hx hword
    have h := transfers_of_fpop hf (runsAs_of_exec hx)
    rwa [hword, fmt3_opf] at h
  and_intros <;> exact hsends rfl rfl

/-! ### The floating point branches (R360, R368) -/

/-- The values of FCC on which each branch is taken, 0 equal, 1 less, 2 greater, 3 unordered (R368). -/
def takenOn : FCond → List Nat
  | .always => [0, 1, 2, 3]
  | .never => []
  | .unordered => [3]
  | .greater => [2]
  | .unorderedOrGreater => [2, 3]
  | .less => [1]
  | .unorderedOrLess => [1, 3]
  | .lessOrGreater => [1, 2]
  | .notEqual => [1, 2, 3]
  | .equal => [0]
  | .unorderedOrEqual => [0, 3]
  | .greaterOrEqual => [0, 2]
  | .unorderedGreaterOrEqual => [0, 2, 3]
  | .lessOrEqual => [0, 1]
  | .unorderedLessOrEqual => [0, 1, 3]
  | .ordered => [0, 1, 2]

theorem evalFcc_eq (c : FCond) (fcc : BitVec 2) : evalFcc c fcc = decide (fcc.toNat ∈ takenOn c) := by
  cases c <;> revert fcc <;> decide

section Branches
variable {s : State} {i : Instr} {c : FCond} {a : Bool} {d : BitVec 22}

/-- An FBfcc with a condition of its own, as a Bicc (R294, R368). -/
theorem transfers_of_fbfcc (hf : fpuReady s) (h : runsAs s i (fbfcc c a d s)) (hc : (c == .always) = false) :
    (s.fcc.toNat ∈ takenOn c → transfers s s i s.npc (s.pc + BitVec.ofInt 32 (4 * d.toInt))) ∧
    (s.fcc.toNat ∉ takenOn c → a = false → transfers s s i s.npc (s.npc + 4)) ∧
    (s.fcc.toNat ∉ takenOn c → a = true → transfers s s i (s.npc + 4) (s.npc + 8)) := by
  have hbranch := (checked_withFpu h).ready_passes hf trivial
  rw [branchTarget, branchOffset_eq, hc, evalFcc_eq] at hbranch
  refine ⟨fun ht => ?_, fun ht ha => ?_, fun ht ha => ?_⟩
  · rw [decide_eq_true ht] at hbranch; exact transfers_of_retire hbranch
  · rw [decide_eq_false ht, ha] at hbranch; exact transfers_of_retire hbranch
  · rw [decide_eq_false ht, ha] at hbranch; exact transfers_of_retire hbranch

/-- FBA, as BA (R293, R294, R368). -/
theorem transfers_of_fbfcc_always (hf : fpuReady s) (h : runsAs s i (fbfcc .always a d s)) :
    let target := s.pc + BitVec.ofInt 32 (4 * d.toInt)
    (a = false → transfers s s i s.npc target) ∧ (a = true → transfers s s i target (target + 4)) := by
  have hbranch := (checked_withFpu h).ready_passes hf trivial
  rw [branchTarget, branchOffset_eq] at hbranch
  refine ⟨fun ha => ?_, fun ha => ?_⟩
  · rw [ha] at hbranch; exact transfers_of_retire hbranch
  · rw [ha] at hbranch; exact transfers_of_retire hbranch

end Branches

/-- Settles O57: each FBfcc is the branch on its row of the table, FBA the one that ignores FCC. -/
theorem floatBranches : Obligations.FloatBranches := by
  unfold Obligations.FloatBranches
  intro s a d hf target branch
  obtain ⟨hdelayed, hannulled⟩ := transfers_of_fbfcc_always hf (runsAs_of_exec (i := .fba a d) (s := s) rfl)
  have hbranch : ∀ {i : Instr} (c : FCond), exec i s = unlessUnsettled i s (fbfcc c a d s) →
      (c == .always) = false → branch i (takenOn c) := fun _ hx => transfers_of_fbfcc hf (runsAs_of_exec hx)
  exact ⟨hdelayed, hannulled, hbranch .never rfl rfl, hbranch .unordered rfl rfl, hbranch .greater rfl rfl,
    hbranch .unorderedOrGreater rfl rfl, hbranch .less rfl rfl, hbranch .unorderedOrLess rfl rfl,
    hbranch .lessOrGreater rfl rfl, hbranch .notEqual rfl rfl, hbranch .equal rfl rfl,
    hbranch .unorderedOrEqual rfl rfl, hbranch .greaterOrEqual rfl rfl, hbranch .unorderedGreaterOrEqual rfl rfl,
    hbranch .lessOrEqual rfl rfl, hbranch .unorderedLessOrEqual rfl rfl, hbranch .ordered rfl rfl⟩

end Sys2Proof.Machine
end

section
/-! PROOFS. The floating point loads and stores: what reaches the FPU and the bus when plain memory answers, and what a
MEXC leaves (44_fp_and_other R365 to R376; 50_bus_signals R395, R396, R404; 20_memory R107, R108): O58, O59, O60. -/

namespace Sys2Proof.Machine

/-! ### Loads and stores that plain memory answers (R365 to R367, R370 to R373, R376) -/

/-- `s` after these transactions and these transfers to the FPU. -/
def handedOver (s : State) (es : List FpuEvent) (cycles : List BusCycle) : State := afterCycles (sendFpu es s) cycles

theorem completes_handedOver (s : State) (es : List FpuEvent) (cycles : List BusCycle) :
    Completes (sendFpu es s) (advance (handedOver s es cycles)) cycles := completes_advance _ _

theorem readHome_handedOver (s : State) (es : List FpuEvent) (cycles : List BusCycle) (h : RegHome) :
    readHome (advance (handedOver s es cycles)) h = readHome s h := readHome_congr rfl rfl h

section Accesses
variable {s : State} {i : Instr} {ea : Word}

theorem fpLoadWord_memory (hf : fpuReady s) (hm : memoryAnswers s 1) (ha : ea.toNat % 4 = 0)
    (h : runsAs s i (fpLoadWord i ea s)) :
    runsAs s i (.next (advance (handedOver s
      [.loadStore (encode i) s.pc, .data (s.mem.word (placeOf s (dataAsi s) ea))]
      [loadCycle (dataAsi s) ea .word]))) := by
  have hx := (checked_withFpuAddress h).ready_passes hf ha
  rw [transact_memory (memoryAnswers_next hm (loadCycle (dataAsi s) ea .word)).1, afterAnswer_eq] at hx
  exact hx

theorem fpLoadPair_memory (hf : fpuReady s) (hm : memoryAnswers s 2) (ha : ea.toNat % 8 = 0)
    (h : runsAs s i (fpLoadPair i ea s)) :
    runsAs s i (.next (advance (handedOver s
      [.loadStore (encode i) s.pc, .data (s.mem.word (placeOf s (dataAsi s) ea)),
        .data (s.mem.word (placeOf s (dataAsi s) (ea + 4)))]
      [pairLoadCycle false (dataAsi s) ea, pairLoadCycle true (dataAsi s) (ea + 4)]))) := by
  obtain ⟨h1, hm2⟩ := memoryAnswers_next hm (pairLoadCycle false (dataAsi s) ea)
  obtain ⟨h2, -⟩ := memoryAnswers_next hm2 (pairLoadCycle true (dataAsi s) (ea + 4))
  have hx := (checked_withFpuAddress h).ready_passes hf ha
  rw [transact_memory h1, transact_memory h2, afterAnswer_two] at hx
  exact hx

theorem fpStoreWord_memory (hf : fpuReady s) (hm : memoryAnswers s 1) (ha : ea.toNat % 4 = 0)
    (h : runsAs s i (fpStoreWord i ea s)) :
    runsAs s i (.next (writePlace (advance (handedOver s [.loadStore (encode i) s.pc]
      [storeCycle (dataAsi s) ea .word (fpuFirst i s)])) (placeOf s (dataAsi s) ea) .word (fpuFirst i s))) := by
  have hx := (checked_withFpuAddress h).ready_passes hf ha
  rw [transact_memory (memoryAnswers_next hm (storeCycle (dataAsi s) ea .word (fpuFirst i s))).1, afterAnswer_eq] at hx
  exact hx

theorem fpStorePair_memory (hf : fpuReady s) (hm : memoryAnswers s 2) (ha : ea.toNat % 8 = 0)
    (h : runsAs s i (fpStorePair i ea s)) :
    runsAs s i (.next (writePlace (writePlace (advance (handedOver s [.loadStore (encode i) s.pc]
      [pairStoreCycle (dataAsi s) ea (fpuFirst i s), pairStoreCycle (dataAsi s) (ea + 4) (fpuSecond i s)]))
      (placeOf s (dataAsi s) ea) .word (fpuFirst i s)) (placeOf s (dataAsi s) (ea + 4)) .word (fpuSecond i s))) := by
  obtain ⟨h1, hm2⟩ := memoryAnswers_next hm (pairStoreCycle (dataAsi s) ea (fpuFirst i s))
  obtain ⟨h2, -⟩ := memoryAnswers_next hm2 (pairStoreCycle (dataAsi s) (ea + 4) (fpuSecond i s))
  have hx := (checked_withFpuAddress h).ready_passes hf ha
  rw [transact_memory h1, transact_memory h2, afterAnswer_two] at hx
  exact hx

/-- The instruction, unless it uses what is unsettled, completes after these transactions, hands these to the FPU and
changes nothing of the IU (R365). -/
def handsOver (s : State) (i : Instr) (es : List FpuEvent) (cycles : List BusCycle) : Prop :=
  ready i s → ∃ t, exec i s = .next t ∧ goesOn s t ∧ madeCycles s t cycles ∧
    writesOnly { s with fpuOut := s.fpuOut ++ es } t .zero 0 s.psr

theorem handsOver_of_next {es : List FpuEvent} {cycles : List BusCycle}
    (h : runsAs s i (.next (advance (handedOver s es cycles)))) : handsOver s i es cycles := fun hready =>
  have ⟨hgoes, hpsr, hspecial, hcycles⟩ := completes_handedOver s es cycles
  ⟨_, h hready, hgoes, hcycles, onlyRegister_none (readHome_handedOver s es cycles), hpsr, hspecial, fun _ => rfl⟩

theorem stores_of_fpStoreWord (hf : fpuReady s) (hwf : s.mem.wf = true) (hm : memoryAnswers s 1)
    (ha : ea.toNat % 4 = 0) (h : runsAs s i (fpStoreWord i ea s)) :
    stores s (sendFpu [.loadStore (encode i) s.pc] s) i (placeOf s (dataAsi s) ea) (bytesOfWord (fpuFirst i s))
      [storeCycle (dataAsi s) ea .word (fpuFirst i s)] := by
  intro hready
  obtain ⟨hgoes, hpsr, hspecial, hcycles⟩ := (completes_handedOver s [.loadStore (encode i) s.pc]
    [storeCycle (dataAsi s) ea .word (fpuFirst i s)]).writePlace (placeOf s (dataAsi s) ea) .word (fpuFirst i s)
  exact ⟨_, fpStoreWord_memory hf hm ha h hready, hgoes, fun g => readHome_congr rfl rfl g, hpsr, hspecial,
    storesBytes_setBytes hwf rfl, hcycles⟩

theorem stores_of_fpStorePair (hf : fpuReady s) (hwf : s.mem.wf = true) (hm : memoryAnswers s 2)
    (ha : ea.toNat % 8 = 0) (h : runsAs s i (fpStorePair i ea s)) :
    stores s (sendFpu [.loadStore (encode i) s.pc] s) i (placeOf s (dataAsi s) ea)
      (bytesOfWord (fpuFirst i s) ++ bytesOfWord (fpuSecond i s))
      [pairStoreCycle (dataAsi s) ea (fpuFirst i s), pairStoreCycle (dataAsi s) (ea + 4) (fpuSecond i s)] := by
  have hplace : placeOf s (dataAsi s) (ea + 4) = placeOf s (dataAsi s) ea + 4 :=
    (placeOf_add (alignedTo_eq_true.2 ha) (by decide) (by decide)).symm
  intro hready
  have hx := fpStorePair_memory hf hm ha h hready
  rw [hplace] at hx
  obtain ⟨hgoes, hpsr, hspecial, hcycles⟩ := ((completes_handedOver s [.loadStore (encode i) s.pc]
    [pairStoreCycle (dataAsi s) ea (fpuFirst i s), pairStoreCycle (dataAsi s) (ea + 4) (fpuSecond i s)]).writePlace
    (placeOf s (dataAsi s) ea) .word (fpuFirst i s)).writePlace (placeOf s (dataAsi s) ea + 4) .word (fpuSecond i s)
  exact ⟨_, hx, hgoes, fun g => readHome_congr rfl rfl g, hpsr, hspecial,
    storesBytes_setBytes hwf (Memory.setBytes_append ..).symm, hcycles⟩

end Accesses

/-- Settles O58: what is handed over are the words at `ea` and `ea + 4`, byte by byte. -/
theorem floatLoads : Obligations.FloatLoads := by
  unfold Obligations.FloatLoads
  intro s rd rs1 a hf ea b hi lo one two sends
  refine ⟨fun hm ha => ?_, fun hm ha => ?_⟩
  · have hhi : s.mem.word (placeOf s (dataAsi s) ea) = hi := word_placeOf ha
    have hword : ∀ {i : Instr}, exec i s = unlessUnsettled i s (fpLoadWord i ea s) →
        handsOver s i [.loadStore (encode i) s.pc, .data hi] one := by
      intro i hx
      rw [← hhi]
      exact handsOver_of_next (fpLoadWord_memory hf hm ha (runsAs_of_exec hx))
    exact ⟨hword (i := .ldf rd rs1 a) rfl, hword (i := .ldfsr rd rs1 a) rfl⟩
  · have hhi : s.mem.word (placeOf s (dataAsi s) ea) = hi := word_placeOf (by omega)
    have hlo : s.mem.word (placeOf s (dataAsi s) (ea + 4)) = lo := word_placeOf_second ha
    have h := handsOver_of_next (fpLoadPair_memory hf hm ha (runsAs_of_exec (i := .lddf rd rs1 a) rfl))
    rw [hhi, hlo] at h
    exact h

/-- Settles O59: the words stored are the free values of the FPU. -/
theorem floatStores : Obligations.FloatStores := by
  unfold Obligations.FloatStores
  intro s rd rs1 a hwf hf ea p sent bytes write one two
  refine ⟨fun hm ha => ?_, fun hm ha => ?_⟩
  · have hone := fun {i : Instr} (hx : exec i s = unlessUnsettled i s (fpStoreWord i ea s)) =>
      stores_of_fpStoreWord hf hwf hm ha (runsAs_of_exec hx)
    exact ⟨⟨_, hone (i := .stf rd rs1 a) rfl⟩, ⟨_, hone (i := .stfsr rd rs1 a) rfl⟩⟩
  · have htwo := fun {i : Instr} (hx : exec i s = unlessUnsettled i s (fpStorePair i ea s)) =>
      stores_of_fpStorePair hf hwf hm ha (runsAs_of_exec hx)
    exact ⟨⟨_, _, htwo (i := .stdf rd rs1 a) rfl⟩, ⟨_, _, htwo (i := .stdfq rd rs1 a) rfl⟩⟩

/-! ### MEXC, after which FLUSH follows what was handed over (R107, R108, R404) -/

section Flush
variable {s : State} {i : Instr} {ea : Word} {c d : BusCycle} {es : List FpuEvent} {cut : State → Answer}
  {done : BusAnswer → State → Answer}

/-- A MEXC on the first access: what was handed over with the FLUSH, and nothing else, stays. -/
theorem raises_first_mexc {n : Nat} (h : runsAs s i (withFpuAddress n ea s
      (transact c s (fun s1 => raise .dataAccessException (sendFpu es s1)) cut done))) (hf : fpuReady s)
    (ha : ea.toNat % n = 0) (hb : nextAnswer s = .mexc) :
    ready i s → raises 9 (handedOver s es [c]) (exec i s) := by
  intro hready
  rw [(checked_withFpuAddress h).ready_passes hf ha hready, transact_mexc hb, afterAnswer_eq]
  exact raises_raise .dataAccessException (handedOver s es [c])

/-- A MEXC on the second access, where `left` is what stays of the first (R108). -/
theorem raises_second_mexc {failed cut2 : State → Answer} {done2 : BusAnswer → State → Answer} {left : State → State}
    (ha : nextAnswer s = .memory) (hb : s.bus[1]? = some .mexc) (h : runsAs s i (transact c s failed cut done))
    (hd : done .memory (afterAnswer c s) = transact d (afterAnswer c s)
      (fun s2 => raise .dataAccessException (left s2)) cut2 done2) :
    ready i s → raises 9 (left (afterCycles s [c, d])) (exec i s) := by
  intro hready
  rw [h hready, transact_memory ha, hd, transact_mexc (nextAnswer_afterAnswer hb), afterAnswer_two]
  exact raises_raise .dataAccessException _

theorem fpLoadPair_second_mexc (h : runsAs s i (fpLoadPair i ea s)) (hf : fpuReady s) (ha : ea.toNat % 8 = 0)
    (hb : nextAnswer s = .memory) (hb2 : s.bus[1]? = some .mexc) :
    ready i s → raises 9 (handedOver s
      [.loadStore (encode i) s.pc, .data (s.mem.word (placeOf s (dataAsi s) ea)), .flush]
      [pairLoadCycle false (dataAsi s) ea, pairLoadCycle true (dataAsi s) (ea + 4)]) (exec i s) :=
  raises_second_mexc hb hb2 ((checked_withFpuAddress h).ready_passes hf ha) rfl

/-- Of a doubleword store the first word is there or not (R108, log 15). -/
theorem fpStorePair_second_mexc (h : runsAs s i (fpStorePair i ea s)) (hf : fpuReady s) (ha : ea.toNat % 8 = 0)
    (hb : nextAnswer s = .memory) (hb2 : s.bus[1]? = some .mexc) :
    let t := handedOver s [.loadStore (encode i) s.pc, .flush]
      [pairStoreCycle (dataAsi s) ea (fpuFirst i s), pairStoreCycle (dataAsi s) (ea + 4) (fpuSecond i s)]
    ready i s → raises 9 t (exec i s) ∨
      raises 9 (writePlace t (placeOf s (dataAsi s) ea) .word (fpuFirst i s)) (exec i s) := by
  intro t hready
  have hraises := raises_second_mexc hb hb2 ((checked_withFpuAddress h).ready_passes hf ha) rfl hready
  obtain e | e := partially_cases s _ _ <;> rw [e] at hraises
  · exact .inr hraises
  · exact .inl hraises

end Flush

/-- Settles O60: each instruction behind its checks, and each access that gets MEXC. -/
theorem floatChecks : Obligations.FloatChecks := by
  unfold Obligations.FloatChecks
  intro s rd rs1 rs2 a annul d opf ea asi words pairs others pending flushed read write
  have hwords : ∀ i ∈ words, ∃ act, Checked s i (ea.toNat % 4 = 0) act := by
    simp only [words, List.forall_mem_cons, List.not_mem_nil, false_imp_iff, implies_true, and_true]
    and_intros <;> exact ⟨_, checked_withFpuAddress (runsAs_of_exec rfl)⟩
  have hpairs : ∀ i ∈ pairs, ∃ act, Checked s i (ea.toNat % 8 = 0) act := by
    simp only [pairs, List.forall_mem_cons, List.not_mem_nil, false_imp_iff, implies_true, and_true]
    and_intros <;> exact ⟨_, checked_withFpuAddress (runsAs_of_exec rfl)⟩
  have hothers : ∀ i ∈ others, ∃ act, Checked s i True act := by
    simp only [others, List.forall_mem_cons, List.not_mem_nil, false_imp_iff, implies_true, and_true]
    and_intros <;> exact ⟨_, checked_withFpu (runsAs_of_exec rfl)⟩
  refine ⟨fun hd i hi => ?_, fun hef hp => ?_⟩
  · have hchecked : ∃ aligned act, Checked s i aligned act := by
      rcases List.mem_append.1 hi with hi | hi
      · rcases List.mem_append.1 hi with hi | hi
        · exact ⟨_, hwords i hi⟩
        · exact ⟨_, hpairs i hi⟩
      · exact ⟨_, hothers i hi⟩
    obtain ⟨_, _, h⟩ := hchecked
    exact h.traps_disabled hd
  have hd := fpDisabled_eq_false hef hp
  have hpending : ∀ {is : List Instr} {aligned : Prop}, (∀ i ∈ is, ∃ act, Checked s i aligned act) → aligned →
      s.fexc = true → ∀ i ∈ is, pending i := fun his ha hx i hi =>
    have ⟨_, h⟩ := his i hi
    h.raises_pending hd ha hx
  have hmisaligned : ∀ {is : List Instr} {aligned : Prop}, (∀ i ∈ is, ∃ act, Checked s i aligned act) → ¬ aligned →
      ∀ i ∈ is, traps 7 s i := fun his ha i hi =>
    have ⟨_, h⟩ := his i hi
    h.traps_misaligned hd ha
  refine ⟨hmisaligned hwords, hmisaligned hpairs, fun hx => ⟨hpending hothers trivial hx,
    fun ha => hpending hwords ha hx, fun ha => hpending hpairs ha hx⟩, fun hx hb => ?_, fun hx hb hb2 ha => ?_⟩
  · have hf : fpuReady s := ⟨hef, hp, hx⟩
    refine ⟨fun ha => ⟨?_, ?_⟩, fun ha => ⟨raises_first_mexc (runsAs_of_exec rfl) hf ha hb, ?_⟩⟩
    · exact forall_mem_two (raises_first_mexc (runsAs_of_exec rfl) hf ha hb)
        (raises_first_mexc (runsAs_of_exec rfl) hf ha hb)
    · exact forall_mem_two ⟨_, raises_first_mexc (runsAs_of_exec rfl) hf ha hb⟩
        ⟨_, raises_first_mexc (runsAs_of_exec rfl) hf ha hb⟩
    · exact forall_mem_two ⟨_, raises_first_mexc (runsAs_of_exec rfl) hf ha hb⟩
        ⟨_, raises_first_mexc (runsAs_of_exec rfl) hf ha hb⟩
  · have hf : fpuReady s := ⟨hef, hp, hx⟩
    exact ⟨fpLoadPair_second_mexc (runsAs_of_exec rfl) hf ha hb hb2,
      forall_mem_two ⟨_, _, fpStorePair_second_mexc (runsAs_of_exec rfl) hf ha hb hb2⟩
        ⟨_, _, fpStorePair_second_mexc (runsAs_of_exec rfl) hf ha hb hb2⟩⟩

end Sys2Proof.Machine
end

section
/-! PROOFS. A trap from its acceptance to the return from it: the type numbers, what raising a trap does, which
interrupt levels are accepted, what a step does when it runs no instruction, and the handler's JMPL and RETT
(60_exceptions R421 to R446; 42_control_transfer R305, R311): O49, O50, O6, O5, O43. -/

namespace Sys2Proof.Machine

/-! ### The type numbers (60_exceptions R421, R463) -/

theorem trapType_trapInstruction_toNat (n : BitVec 7) : (trapType (.trapInstruction n)).toNat = 128 + n.toNat := by
  have hbase : (128 : BitVec 8).toNat = 128 := rfl
  have hlt := n.isLt
  rw [trapType, BitVec.toNat_add, BitVec.toNat_setWidth, hbase]
  omega

theorem trapType_interrupt_toNat (l : BitVec 4) : (trapType (.interrupt l)).toNat = 16 + l.toNat := by
  have hbase : (16 : BitVec 8).toNat = 16 := rfl
  have hlt := l.isLt
  rw [trapType, BitVec.toNat_add, BitVec.toNat_setWidth, hbase]
  omega

/-- Settles O49: the fixed numbers are those of the definition, and the two families do not wrap. -/
theorem trapTypeNumbers : Obligations.TrapTypeNumbers := by
  unfold Obligations.TrapTypeNumbers
  exact ⟨rfl, rfl, rfl, rfl, rfl, rfl, rfl, rfl, rfl, rfl, trapType_trapInstruction_toNat, trapType_interrupt_toNat⟩

/-! ### Raising a trap (60_exceptions R430, R431) -/

/-- A handler runs in supervisor mode, so it is fetched from supervisor instruction space (20_memory R82). -/
theorem fetchAsi_trapEntry (k : BitVec 8) (s : State) : fetchAsi (trapEntry k s) = 0x09 := by
  rw [fetchAsi, trapEntry_psr]; rfl

/-- Settles O50: every raised trap is one as the statements say it, and with traps enabled it is trap entry. -/
theorem trapEntryContents : Obligations.TrapEntryContents := by
  unfold Obligations.TrapEntryContents
  intro k s
  refine ⟨raises_raise k s, fun he t h => ?_⟩
  obtain ⟨-, ⟨-, -, -, rfl⟩ | ⟨hdisabled, -⟩⟩ := raise_next h
  · exact fetchAsi_trapEntry _ s
  · exact absurd (hdisabled.symm.trans he) Bool.false_ne_true

/-! ### The interrupt test (60_exceptions R441, R445; 43_state_registers R342) -/

section InterruptTest
variable {s : State}

theorem acceptsInterrupt_iff (s : State) (level : BitVec 4) :
    acceptsInterrupt s level = true ↔
      testEt s = true ∧ level.toNat ≠ 0 ∧ (level.toNat = 15 ∨ (testPil s).toNat < level.toNat) := by
  have hzero : level = 0 ↔ level.toNat = 0 := BitVec.toNat_inj.symm
  have htop : level = 15 ↔ level.toNat = 15 := BitVec.toNat_inj.symm
  simp only [acceptsInterrupt, Bool.and_eq_true, Bool.or_eq_true, bne_iff_ne, beq_iff_eq, decide_eq_true_eq,
    BitVec.lt_def, ne_eq, hzero, htop]
  tauto

theorem testEt_mem (s : State) : testEt s ∈ [s.psr.et, s.psrDelay.oldEt] := by
  unfold testEt; split <;> simp

theorem testPil_mem (s : State) : testPil s ∈ [s.psr.pil, s.psrDelay.oldPil] := by
  unfold testPil; split <;> simp

theorem testEt_of_closed (h : interruptTestOpen s = false) : testEt s = s.psr.et := by
  rw [testEt, h]; rfl

theorem testPil_of_closed (h : interruptTestOpen s = false) : testPil s = s.psr.pil := by
  rw [testPil, h]; rfl

/-- A window of a WRPSR that changed neither ET nor PIL leaves the test its stored values (R342). -/
theorem interruptTestOpen_unchanged (het : s.psrDelay.changed.et = false) (hpil : s.psrDelay.changed.pil = false) :
    interruptTestOpen s = false := by
  unfold interruptTestOpen PsrDelay.live
  split
  · rfl
  · rw [het, hpil]; rfl

/-- With the test closed a level is accepted by the stored ET and PIL (60_exceptions R441). -/
theorem acceptsInterrupt_of_closed (h : interruptTestOpen s = false) (level : BitVec 4) :
    acceptsInterrupt s level = true ↔
      s.psr.et = true ∧ level.toNat ≠ 0 ∧ (level.toNat = 15 ∨ s.psr.pil.toNat < level.toNat) := by
  rw [acceptsInterrupt_iff, testEt_of_closed h, testPil_of_closed h]

end InterruptTest

/-- Settles O6: the test goes by its ET and PIL, which are old or new, and the stored ones while it is closed. -/
theorem interruptAcceptance : Obligations.InterruptAcceptance := by
  unfold Obligations.InterruptAcceptance
  intro s level accepts
  exact ⟨fun h => acceptsInterrupt_of_closed (interruptTestOpen_settled h) level,
    fun het hpil => acceptsInterrupt_of_closed (interruptTestOpen_unchanged het hpil) level,
    _, testEt_mem s, _, testPil_mem s, acceptsInterrupt_iff s level⟩

/-! ### A step that runs no instruction (60_exceptions R441, R446; 70_reset_and_hazards R481) -/

section Boundary
variable {s : State}

theorem step_interrupt (hm : s.mode = .execute) (hr : (nextInput s).reset = false)
    (hi : acceptsInterrupt (receiveInput s) (nextInput s).irl = true) :
    step s = enterTrap (.interrupt (nextInput s).irl) (receiveInput s) := by
  simp only [step, runStep, receiveInput_mode, hm, hr, hi, Bool.false_eq_true, if_false, if_true]

/-- Trap entry uses S and CWP (43_state_registers R341). -/
theorem enterTrap_unsettled {k : Trap} (h : s.psrDelay.live.s = true ∨ s.psrDelay.live.cwp = true) :
    enterTrap k s = .refused .psrUnsettled := if_pos (Bool.or_eq_true_iff.2 h)

theorem fetchAndRun_unsettled (hl : s.psrDelay.live.s = true) : fetchAndRun s = .refused .psrUnsettled := if_pos hl

theorem fetchAndRun_mexc (hl : s.psrDelay.live.s = false) (h : nextAnswer s = .mexc) :
    fetchAndRun s = raise .instructionAccessException (afterAnswer (fetchCycle s) s) := by
  rw [fetchAndRun, if_neg (by simp [hl]), transact_mexc h]

theorem fetchAndRun_reset (hl : s.psrDelay.live.s = false) (h : nextAnswer s = .reset) :
    fetchAndRun s = cutByReset (afterAnswer (fetchCycle s) s) := by
  rw [fetchAndRun, if_neg (by simp [hl]), transact_reset h]

theorem fetchAndRun_held (hl : s.psrDelay.live.s = false) (h : nextAnswer s = .held) :
    fetchAndRun s = .fault .heldForever := by
  rw [fetchAndRun, if_neg (by simp [hl]), transact_held h]

end Boundary

/-- Settles O5: an accepted interrupt is its trap's entry, and else the step is the fetch, by its answer. -/
theorem stepTakesInterruptOrFetchTrap : Obligations.StepTakesInterruptOrFetchTrap := by
  unfold Obligations.StepTakesInterruptOrFetchTrap
  intro s hm hr fetched live
  have hfetched : afterAnswer (fetchCycle (receiveInput s)) (receiveInput s) = fetched := afterAnswer_eq _ _
  refine ⟨fun hi => ?_, fun hi hs => ?_, fun hi hs => ?_⟩
  · rw [step_interrupt hm hr hi]
    exact ⟨fun hs hw => ⟨_, enterTrap_settled hs hw, trapped_trapEntry _ _⟩, enterTrap_unsettled (s := receiveInput s)⟩
  · rw [step_execute hm hr hi]
    exact fetchAndRun_unsettled (s := receiveInput s) hs
  · rw [step_execute hm hr hi]
    refine ⟨fun ha => ?_, fun ha => ?_, fetchAndRun_held (s := receiveInput s) hs⟩
    · rw [fetchAndRun_mexc (s := receiveInput s) hs ha, hfetched]
      exact raises_raise .instructionAccessException fetched
    · rw [fetchAndRun_reset (s := receiveInput s) hs ha, hfetched]; rfl

/-! ### The handler's return (60_exceptions R435) -/

theorem readReg_zero (s : State) : readReg s 0 = 0 := by rw [readReg, readWin, home_eq_zero.2 rfl, readHome_zero]

/-- The window above the handler's is the interrupted program's (10_state R45). -/
theorem nextWindow_prevWindow (w : WindowNum) : nextWindow (prevWindow w) = w := sub_add_cancel w 1

/-- A JMPL that links to r0 changes no register. -/
theorem readReg_linkedTo_zero (s : State) (target : Word) (mark : Bool) (n : RegNum) :
    readReg (linkedTo s target 0 mark) n = readReg s n := by
  obtain ⟨-, -, ⟨⟨-, hother⟩, hpsr, -, -⟩, -⟩ := linkedTo_effect s target 0 mark
  rw [readReg, readReg, curWindow, curWindow, hpsr]
  by_cases hn : n = 0
  · rw [hn, readWin, readWin, home_eq_zero.2 rfl, readHome_zero, readHome_zero]
  · refine hother _ fun h => hn ?_
    rwa [destination, home_eq_zero.2 rfl, home_eq_zero] at h

/-- The sum of JMPL and RETT with r0 as second operand. -/
theorem add_opValue_zero (s : State) (n : RegNum) : readReg s n + opValue s (.reg 0) = readReg s n := by
  rw [opValue, readReg_zero, add_zero]

/-- The state in which the handler's RETT runs, once its JMPL has gone to the interrupted PC (60_exceptions R435). -/
def handlerJumped (k : BitVec 8) (s : State) : State := linkedTo (trapEntry k s) s.pc 0 true

section Handler
variable {k : BitVec 8} {s : State}

theorem curWindow_trapEntry (k : BitVec 8) (s : State) : curWindow (trapEntry k s) = prevWindow s.psr.cwp := by
  rw [curWindow, trapEntry_psr]

/-- JMPL to `r17`, where trap entry has put an aligned PC (R431). -/
theorem handler_jumps (hpc : s.pc.toNat % 4 = 0) :
    runsAs (trapEntry k s) (.jmpl 0 17 (.reg 0)) (.next (handlerJumped k s)) := by
  have htarget : readReg (trapEntry k s) 17 + opValue (trapEntry k s) (.reg 0) = s.pc := by
    rw [add_opValue_zero, readReg, curWindow_trapEntry, readWin_trapEntry_17]
  have hjump := jmpl_runsAs 0 (by rwa [htarget])
  rwa [htarget] at hjump

theorem handlerJumped_npc (k : BitVec 8) (s : State) : (handlerJumped k s).npc = s.pc := by
  simp [handlerJumped, linkedTo]

theorem handlerJumped_psr (k : BitVec 8) (s : State) : (handlerJumped k s).psr = trapPsr s := by
  obtain ⟨-, -, ⟨-, hpsr, -, -⟩, -⟩ := linkedTo_effect (trapEntry k s) s.pc 0 true
  exact hpsr.trans (trapEntry_psr k s)

theorem handlerJumped_nextWindow (k : BitVec 8) (s : State) :
    nextWindow (handlerJumped k s).psr.cwp = s.psr.cwp := by
  rw [handlerJumped_psr]; exact nextWindow_prevWindow _

/-- RETT to `r18`, where trap entry has put an aligned nPC, when the interrupted window is not invalid (R431). -/
theorem handler_returns (hw : s.wim.getLsbD s.psr.cwp.val = false) (hnpc : s.npc.toNat % 4 = 0) :
    runsAs (handlerJumped k s) (.rett 18 (.reg 0)) (.next (returnFromTrap s.npc (handlerJumped k s))) := by
  have htarget : readReg (handlerJumped k s) 18 + opValue (handlerJumped k s) (.reg 0) = s.npc := by
    rw [add_opValue_zero, handlerJumped, readReg_linkedTo_zero, readReg, curWindow_trapEntry, readWin_trapEntry_18]
  have hdisabled : (handlerJumped k s).psr.et = false := by rw [handlerJumped_psr]; rfl
  have hsupervisor : supervisor (handlerJumped k s) := by rw [supervisor, handlerJumped_psr]; rfl
  have hwim : (handlerJumped k s).wim = s.wim := by simp [handlerJumped, linkedTo]
  have hvalid : windowInvalid (handlerJumped k s) (nextWindow (curWindow (handlerJumped k s))) = false := by
    rw [windowInvalid, curWindow, handlerJumped_nextWindow, hwim, hw]
  have hreturn := rett_passes hdisabled hsupervisor hvalid (by rwa [htarget])
  rw [htarget] at hreturn
  exact hreturn

end Handler

/-- Settles O43: the JMPL goes to the interrupted PC and changes no register, so the RETT passes its checks and goes
to the interrupted nPC, in the window above. -/
theorem trapAndReturn : Obligations.TrapAndReturn := by
  unfold Obligations.TrapAndReturn
  rintro s _ u v k _ _ hw hpc hnpc rfl hu hv
  injection runsAs_next (handler_jumps hpc) hu with hu
  subst hu
  injection runsAs_next (handler_returns hw hnpc) hv with hv
  subst hv
  have hs : (returnFromTrap s.npc (handlerJumped k s)).psr.s = s.psr.s := by
    rw [returnFromTrap_psr, handlerJumped_psr]; rfl
  refine ⟨?_, returnFromTrap_npc _ _, ?_, hs, ?_, by rw [fetchAsi, fetchAsi, hs]⟩
  · rw [returnFromTrap_pc, handlerJumped_npc]
  · rw [returnFromTrap_psr]; exact handlerJumped_nextWindow k s
  · rw [returnFromTrap_psr]

end Sys2Proof.Machine
end

section
/-! PROOFS. The instructions that are illegal, and the privileged ones in user mode: each is the raise of its trap and
nothing else (60_exceptions R447, R452; 43_state_registers R330, R336; 44_fp_and_other R374, R375): O51, O52. -/

namespace Sys2Proof.Machine

section Forms
variable {s : State} {i : Instr} {act : Answer}

theorem traps_of_exec {k : Trap} (h : exec i s = unlessUnsettled i s act) (hk : act = raise k s) :
    traps (trapType k) s i := by
  rw [hk] at h
  exact runsAs_raise (runsAs_of_exec h)

/-! ### The alternate-space instructions (40_data_transfer R161, R162) -/

/-- The alternate-space instructions with the operand `a`. -/
def alternateForms (rd rs1 : RegNum) (a : AltOperand) : List Instr :=
  [.ldsba rd rs1 a, .ldsha rd rs1 a, .lduba rd rs1 a, .lduha rd rs1 a, .lda rd rs1 a, .ldda rd rs1 a,
    .stba rd rs1 a, .stha rd rs1 a, .sta rd rs1 a, .stda rd rs1 a, .ldstuba rd rs1 a]

/-- Each of them makes its access, whatever it is, behind the same checks. -/
theorem exec_alternateForms (s : State) (rd rs1 : RegNum) (a : AltOperand) :
    ∀ i ∈ alternateForms rd rs1 a, ∃ access, exec i s = unlessUnsettled i s (withAlternate rs1 a s access) := by
  simp only [alternateForms, List.forall_mem_cons, List.not_mem_nil, false_imp_iff, implies_true, and_true]
  exact ⟨⟨_, rfl⟩, ⟨_, rfl⟩, ⟨_, rfl⟩, ⟨_, rfl⟩, ⟨_, rfl⟩, ⟨_, rfl⟩, ⟨_, rfl⟩, ⟨_, rfl⟩, ⟨_, rfl⟩, ⟨_, rfl⟩, ⟨_, rfl⟩⟩

theorem alternateForms_immediate (rd rs1 : RegNum) (v : BitVec 13) :
    ∀ i ∈ alternateForms rd rs1 (.imm v), traps 2 s i := fun i hi => by
  obtain ⟨_, hx⟩ := exec_alternateForms s rd rs1 (.imm v) i hi
  exact traps_of_exec (k := .illegalInstruction) hx rfl

theorem alternateForms_user (hs : s.psr.s = false) (rd rs1 rs2 : RegNum) (asi : Asi) :
    ∀ i ∈ alternateForms rd rs1 (.reg asi rs2), traps 3 s i := fun i hi => by
  obtain ⟨_, hx⟩ := exec_alternateForms s rd rs1 (.reg asi rs2) i hi
  exact traps_of_exec (k := .privilegedInstruction) hx (if_neg (by rw [hs]; exact Bool.false_ne_true))

/-! ### The state register instructions (43_state_registers R330, R336) -/

theorem supervisorOnly_user (hs : s.psr.s = false) (act : Answer) :
    supervisorOnly s act = raise .privilegedInstruction s := if_neg (by rw [hs]; exact Bool.false_ne_true)

/-- In user mode a privileged instruction only raises its trap (R330). -/
theorem traps_of_supervisorOnly (hs : s.psr.s = false) (h : exec i s = unlessUnsettled i s (supervisorOnly s act)) :
    traps 3 s i := traps_of_exec (k := .privilegedInstruction) h (supervisorOnly_user hs act)

variable {rs1 : RegNum} {o : RegImm}

/-- WRPSR looks at its window first (R336): one that does not exist is illegal in either mode. -/
theorem wrpsr_unimplementedWindow (hv : 7 ≤ (readReg s rs1 ^^^ opValue s o).toNat % 32) : traps 2 s (.wrpsr rs1 o) :=
  traps_of_exec (k := .illegalInstruction) (i := .wrpsr rs1 o) rfl
    (if_neg (by rw [toNat_extractLsb'_cwp]; exact hv.not_gt))

theorem wrpsr_user (hs : s.psr.s = false) (hv : (readReg s rs1 ^^^ opValue s o).toNat % 32 < 7) :
    traps 3 s (.wrpsr rs1 o) :=
  traps_of_exec (k := .privilegedInstruction) (i := .wrpsr rs1 o) rfl
    ((if_pos (by rw [toNat_extractLsb'_cwp]; exact hv)).trans (supervisorOnly_user hs _))

/-! ### IFLUSH (44_fp_and_other R375) -/

theorem iflush_nop (rs1 : RegNum) (o : RegImm) (htc : s.tc = true) :
    transfers s s (.iflush rs1 o) s.npc (s.npc + 4) :=
  transfers_of_retire fun hready => (unlessUnsettled_ready hready).trans (if_pos htc)

theorem iflush_illegal (rs1 : RegNum) (o : RegImm) (htc : s.tc = false) : traps 2 s (.iflush rs1 o) :=
  traps_of_exec (k := .illegalInstruction) (i := .iflush rs1 o) rfl (if_neg (by rw [htc]; exact Bool.false_ne_true))

end Forms

/-- Settles O51: UNIMP is illegal as it stands, every other form by its own check. -/
theorem illegalForms : Obligations.IllegalForms := by
  unfold Obligations.IllegalForms
  intro s rd rs1 o v c
  exact ⟨traps_of_exec (k := .illegalInstruction) (i := .unimp c) rfl rfl, iflush_nop rs1 o,
    iflush_illegal rs1 o, alternateForms_immediate rd rs1 v, wrpsr_unimplementedWindow,
    fun he => runsAs_raise (rett_enabled rs1 o he)⟩

/-- Settles O52: the alternate-space forms by their second check, the state register instructions by their only one,
and WRPSR by the one after its window's. -/
theorem privilegedForms : Obligations.PrivilegedForms := by
  unfold Obligations.PrivilegedForms
  intro s rd rs1 rs2 o asi hs
  have hstate : ∀ i ∈ [Instr.rdpsr rd, .rdwim rd, .rdtbr rd, .wrwim rs1 o, .wrtbr rs1 o], traps 3 s i := by
    simp only [List.forall_mem_cons, List.not_mem_nil, false_imp_iff, implies_true, and_true]
    exact ⟨traps_of_supervisorOnly hs rfl, traps_of_supervisorOnly hs rfl, traps_of_supervisorOnly hs rfl,
      traps_of_supervisorOnly hs rfl, traps_of_supervisorOnly hs rfl⟩
  exact ⟨List.forall_mem_append.2 ⟨alternateForms_user hs rd rs1 rs2 asi, hstate⟩, wrpsr_user hs⟩

end Sys2Proof.Machine
end

section
/-! PROOFS. The steps of RESET and of error mode, which run nothing (10_state R55, R61; 60_exceptions R433;
70_reset_and_hazards R480): O7. -/

namespace Sys2Proof.Machine

section Modes
variable {s : State}

theorem step_assertReset (hr : (nextInput s).reset = true) : step s = .next (assertReset (receiveInput s)) := if_pos hr

theorem step_releaseReset (hr : (nextInput s).reset = false) (hm : s.mode = .reset) :
    step s = .next (releaseReset (receiveInput s)) := by
  simp only [step, runStep, receiveInput_mode, hm, hr, Bool.false_eq_true, if_false]

theorem step_halted (hr : (nextInput s).reset = false) (hm : s.mode = .error) :
    step s = .fault .haltedInErrorMode := by
  simp only [step, runStep, receiveInput_mode, hm, hr, Bool.false_eq_true, if_false]

end Modes

/-! ### What the release of RESET leaves (10_state R61) -/

theorem sameRegisters_releaseReset (s : State) : sameRegisters s (releaseReset s) := readHome_releaseReset s

theorem sameSpecial_releaseReset (s : State) : sameSpecial { s with mode := .execute } (releaseReset s) :=
  ⟨releaseReset_wim s, releaseReset_tba s, releaseReset_tt s, releaseReset_y s, releaseReset_mode s,
    releaseReset_fexc s, releaseReset_fcc s, releaseReset_fpuOut s, releaseReset_tc s, releaseReset_fpuPresent s,
    releaseReset_spaces s, releaseReset_inputs s⟩

theorem sameMemory_releaseReset (s : State) : sameMemory s (releaseReset s) := fun p =>
  congrArg (Memory.get · p) (releaseReset_mem s)

theorem releaseReset_settled (s : State) : settled (releaseReset s) :=
  ⟨congrArg PsrDelay.left (releaseReset_psrDelay s), releaseReset_wimDelay s,
    congrArg TbrDelay.left (releaseReset_tbrDelay s), releaseReset_yDelay s⟩

/-- Settles O7: RESET is looked at before the mode, and released it gives PC, nPC, S and ET and keeps the rest. -/
theorem resetAndErrorMode : Obligations.ResetAndErrorMode := by
  unfold Obligations.ResetAndErrorMode
  intro s
  refine ⟨step_assertReset, fun hr hm => ?_, step_halted⟩
  have hregisters : sameRegisters s (releaseReset (receiveInput s)) := fun h =>
    (sameRegisters_releaseReset (receiveInput s) h).trans (readHome_receiveInput s h)
  exact ⟨_, step_releaseReset hr hm, releaseReset_pc _, releaseReset_npc _, releaseReset_psr _, hregisters,
    sameSpecial_releaseReset _, sameMemory_releaseReset _, releaseReset_settled _⟩

end Sys2Proof.Machine
end
